-- ==== Sys2Proof/Word.lean ====
section
/-!
DEFINITION. Word.lean: the word types of the ARQ Framer-Sequencer (00_scope.md rules R5, R8, R9).
Widths are fixed by R5's second table, so each type fixes its own.
-/

namespace Sys2Proof

/-- One byte of a frame, of a payload or of a buffer (R9). -/
abbrev Byte := BitVec 8

/-- The 32-bit word: host data bus, wire sequence number, TIMEOUT, TIMER_REM, NOW, counters (R5). -/
abbrev Word := BitVec 32

/-- A 33-bit session sequence number, NEXT_SEQ or EXP_SEQ, with range 0 to 2^32 (R5, R33, R44). -/
abbrev SessionSeq := BitVec 33

/-- A 16-bit quantity: payload length, MAX_RETRIES, RETRIES_USED, checksum (R5). -/
abbrev Half := BitVec 16

/-- A 14-bit byte offset from `P_BASE` into the host register space (R5, R70). -/
abbrev Offset := BitVec 14

/-- A frame, or any other datagram: a finite byte sequence, byte 0 first on the wire (R9). -/
abbrev Frame := List Byte

/-- The bytes that say which operation an agent offers next (Decode.lean; log entry 1). -/
abbrev OpRecord := List Byte

/-- `zext_33(s)`: a wire sequence number compared against a 33-bit register (R8). -/
abbrev zext33 (s : Word) : SessionSeq := s.setWidth 33

/-- 2^32, the value of NEXT_SEQ and EXP_SEQ when every sequence number is used up (R33, R44). -/
abbrev seqLimit : SessionSeq := 0x100000000#33

end Sys2Proof
end

