-- ==== Sys2Proof/Machine/Operands.lean ====
section
/-!
DEFINITION. Operands.lean: every operand form of the spec: byte lanes of a host word (R72), big-endian fields
of a frame (R9, R95), fields of the command word (R92, R94).
-/

namespace Sys2Proof.Machine

/-- The word whose byte lanes are `b0` (bits [7:0]) to `b3` (bits [31:24]) (R72). -/
def wordOfLanes (b0 b1 b2 b3 : Byte) : Word := b3 ++ b2 ++ b1 ++ b0

/-- The byte lanes of a word, lane 0 (bits [7:0]) first (R72). -/
def lanesOf (v : Word) : List Byte :=
  [v.extractLsb' 0 8, v.extractLsb' 8 8, v.extractLsb' 16 8, v.extractLsb' 24 8]

/-- `be16(v)` (R9). -/
def be16 (v : Half) : List Byte := [v.extractLsb' 8 8, v.extractLsb' 0 8]

/-- `be32(v)` (R9). -/
def be32 (v : Word) : List Byte :=
  [v.extractLsb' 24 8, v.extractLsb' 16 8, v.extractLsb' 8 8, v.extractLsb' 0 8]

/-- `f[i]`, for a frame that has a byte `i` (R9). -/
def byteAt (f : Frame) (i : Nat) : Byte := f.getD i 0

/-- `rd_be16(f, i)` (R9). -/
def rdBe16 (f : Frame) (i : Nat) : Half := byteAt f i ++ byteAt f (i + 1)

/-- `rd_be32(f, i)` (R9). -/
def rdBe32 (f : Frame) (i : Nat) : Word :=
  byteAt f i ++ byteAt f (i + 1) ++ byteAt f (i + 2) ++ byteAt f (i + 3)

/-- `f[i .. i+n-1]` (R9): `n` bytes from byte `i` on. -/
def slice (f : Frame) (i n : Nat) : Frame := (f.drop i).take n

/-- OPCODE, bits [7:0] of the command word (R92). -/
def opcodeOf (w : Word) : Byte := w.extractLsb' 0 8

/-- Bits [31:8] of the command word, reserved for every command but TX_SEND (R92, R99). -/
def reservedOf (w : Word) : BitVec 24 := w.extractLsb' 8 24

/-- RSVD, bits [15:8] of the command word (R92), reserved for TX_SEND (R99). -/
def sendReservedOf (w : Word) : Byte := w.extractLsb' 8 8

/-- TX_SEND's LEN, bits [31:16] of the command word (R94). -/
def lenOf (w : Word) : Half := w.extractLsb' 16 16

/-- The command word with OPCODE `op` and bits [31:8] `rsvd` (R92). -/
def commandWord (op : Byte) (rsvd : BitVec 24) : Word := rsvd ++ op

/-- The word of TX_SEND with LEN `len` and bits [15:8] `rsvd` (R93, R94). -/
def sendWord (len : Half) (rsvd : Byte) : Word := len ++ rsvd ++ (0x02 : Byte)

end Sys2Proof.Machine
end

