-- ==== Sys2Proof/Config.lean ====
section
/-!
DEFINITION. Config.lean: what is fixed for one machine (the implementation parameters of R5, the link model
and impairment profiles of R181 and R185), and the free values: what the spec leaves to `any value`.
-/

namespace Sys2Proof

/-- The sizes of one block (R5). Every value within the legal ranges is admitted, and no other. -/
structure Params where
  /-- `P_MAX_PAYLOAD`: largest DATA payload in bytes, TX and RX. -/
  maxPayload : Nat
  /-- `P_EVQ_DEPTH`: event queue capacity in entries. -/
  evqDepth : Nat
  /-- `P_TXQ_DEPTH`: link output queue capacity in frames. -/
  txqDepth : Nat
  /-- The legal ranges of R5's first table. -/
  legal : (1 ≤ maxPayload ∧ maxPayload ≤ 4096) ∧ (1 ≤ evqDepth ∧ evqDepth ≤ 255) ∧
    (1 ≤ txqDepth ∧ txqDepth ≤ 255) := by decide
deriving DecidableEq, Repr

/-- The default parameter values of R5. -/
def Params.standard : Params := { maxPayload := 1024, evqDepth := 16, txqDepth := 4 }

/-- What R183 keeps of a probability p in [0, 1]: p = 0, 0 < p < 1, or p = 1. -/
inductive Chance where
  | never
  | sometimes
  | always
deriving DecidableEq, Repr

/-- The impairment profile of one link direction (R181). An invalid profile cannot be written down: a
machine is never launched with one (R181, 93_implementation_defined.md U15). -/
structure Profile where
  loss : Chance
  corruption : Chance
  delayMin : Nat
  delayMax : Nat
  legal : delayMin ≤ delayMax := by decide
deriving DecidableEq, Repr

/-- `LINK_MODEL` (R185). -/
inductive LinkModel where
  /-- R182 to R184 and R189 exactly. -/
  | simulator
  /-- In addition: any change, truncation, extension, duplication or delay, and no urgency. -/
  | any
deriving DecidableEq, Repr

/-- One resolution of the choices that LINK_ADMIT makes (R182, and R185 for the last two fields). R183
and the profile decide how much of it counts: see `Machine.Link.admitFrame`. -/
structure LinkChoice where
  /-- Step 1: the wish to drop the frame. -/
  drop : Bool
  /-- Step 2: the wished delay in ticks. -/
  delay : Nat
  /-- Step 3: the wish to corrupt the frame, the byte index `i` and the mask `m`. -/
  corrupt : Bool
  index : Nat
  mask : Byte
  /-- Under `LINK_MODEL = ANY` only: the byte sequence carried in the frame's place. -/
  replace : Option Frame
  /-- Under `LINK_MODEL = ANY` only: further copies, each with content and delay of its own. -/
  extra : List (Frame × Nat)
deriving DecidableEq, Repr, Inhabited

namespace Config

/-- FREE VALUE: byte `i` of the `n`-th draw, for a TXBUF or RXBUF byte that nothing has written since reset
(U1, U2, U3) and for the word a host fault's read returns (U5). Log entry 4. -/
opaque freeByte : (n i : Nat) → Byte

/-- FREE VALUE: the content of RETX that the `n`-th reset leaves (R41, U4). Log entry 5. -/
opaque freeFrame : (n : Nat) → Frame

/-- FREE VALUE: the link agent's choice in the `n`-th step when no resolution stands in
`Link.choices` (R182, U13). Log entry 6. -/
opaque freeChoice : (n : Nat) → LinkChoice

/-- OPEN PARAMETER: `P_TICK_PERIOD` less one, so that the period is positive (R5, U16). No rule reads it. -/
opaque tickPeriodLessOne : Nat

/-- `P_TICK_PERIOD`: real time between two TICKs, in some unit (R5). -/
def tickPeriod : Nat := tickPeriodLessOne + 1

/-- OPEN PARAMETER: `P_BASE` of each block divided by 16 KiB (R5, U17). -/
opaque baseIndex : (block : Nat) → Nat

/-- `P_BASE`: the host bus address of register offset 0, a multiple of 0x4000 (R5, R84). Every access is
modelled by its offset, so no rule reads it. -/
def base (block : Nat) : Nat := 0x4000 * baseIndex block

end Config

end Sys2Proof
end

