-- ==== Sys2Proof/Syntax.lean ====
section
/-!
DEFINITION. Syntax.lean: the operations of the reference system, one constructor for each row of
spec/opcode_table.json (30_encoding.md rule R90; 42_link.md for the link agent's steps).
-/

namespace Sys2Proof

/-- The two blocks of the reference system (R4). -/
inductive BlockId where
  | A
  | B
deriving DecidableEq, Repr

/-- The two link directions (R181). -/
inductive Direction where
  | aToB
  | bToA
deriving DecidableEq, Repr

/-- The block that sends in a direction. -/
def Direction.src : Direction → BlockId
  | .aToB => .A
  | .bToA => .B

/-- The block that receives in a direction. -/
def Direction.dst : Direction → BlockId
  | .aToB => .B
  | .bToA => .A

/-- The direction in which a block sends. -/
def BlockId.outbound : BlockId → Direction
  | .A => .aToB
  | .B => .bToA

/-- The direction in which a block receives. -/
def BlockId.inbound : BlockId → Direction
  | .A => .bToA
  | .B => .aToB

/-- The operations. `blk` is the block an operation acts on. A command carries the bits of its word outside
the opcode (R92): `rsvd` is w[31:8], or w[15:8] for TX_SEND, whose `len` is w[31:16]. -/
inductive Instr where
  /-- HOST_READ (R120): an access of `width` bytes at `off`. Legal only with width 4 (R10, R121). -/
  | hostRead (blk : BlockId) (width : Byte) (off : Offset)
  /-- HOST_WRITE (R122). -/
  | hostWrite (blk : BlockId) (width : Byte) (off : Offset) (data : Word)
  /-- NOP, opcode 0x00 (R130). -/
  | nop (blk : BlockId) (rsvd : BitVec 24)
  /-- TX_START, opcode 0x01 (R202). -/
  | txStart (blk : BlockId) (rsvd : BitVec 24)
  /-- TX_SEND, opcode 0x02 (R204). -/
  | txSend (blk : BlockId) (len : Half) (rsvd : Byte)
  /-- TX_END, opcode 0x03 (R208). -/
  | txEnd (blk : BlockId) (rsvd : BitVec 24)
  /-- TX_CANCEL, opcode 0x04 (R210). -/
  | txCancel (blk : BlockId) (rsvd : BitVec 24)
  /-- RX_RESET, opcode 0x05 (R248). -/
  | rxReset (blk : BlockId) (rsvd : BitVec 24)
  /-- RX_RELEASE, opcode 0x06 (R249). -/
  | rxRelease (blk : BlockId) (rsvd : BitVec 24)
  /-- EVQ_POP, opcode 0x07 (R134). -/
  | evqPop (blk : BlockId) (rsvd : BitVec 24)
  /-- CLR_COUNTERS, opcode 0x08 (R132). -/
  | clrCounters (blk : BlockId) (rsvd : BitVec 24)
  /-- SOFT_RESET, opcode 0x09 (R136). -/
  | softReset (blk : BlockId) (rsvd : BitVec 24)
  /-- A command word whose OPCODE is 0x0A to 0xFF (R93, R99). -/
  | illegalOpcode (blk : BlockId) (word : Word)
  /-- LINK_RX(f), a frame arrives (R160). -/
  | linkRx (blk : BlockId) (f : Frame)
  /-- RX_INVALID: what LINK_RX resolves into when `f` fails to decode (R161). -/
  | rxInvalid (blk : BlockId) (f : Frame)
  /-- RX_ACK, the matching case (R206). -/
  | rxAckMatch (blk : BlockId) (f : Frame)
  /-- RX_ACK, the stale case (R207). -/
  | rxAckStale (blk : BlockId) (f : Frame)
  /-- RX_DATA (R240). -/
  | rxData (blk : BlockId) (f : Frame)
  /-- RX_ACCEPT (R241). -/
  | rxAccept (blk : BlockId) (f : Frame)
  /-- RX_SINK_BUSY (R242). -/
  | rxSinkBusy (blk : BlockId) (f : Frame)
  /-- RX_DUPLICATE (R243). -/
  | rxDuplicate (blk : BlockId) (f : Frame)
  /-- RX_FUTURE (R244). -/
  | rxFuture (blk : BlockId) (f : Frame)
  /-- LINK_TAKE, a strobe (R180). -/
  | linkTake (blk : BlockId)
  /-- TICK, a strobe (R215). -/
  | tick (blk : BlockId)
  /-- EXPIRE, the retransmit case (R217). -/
  | expireRetransmit (blk : BlockId)
  /-- EXPIRE, the fail case (R218). -/
  | expireFail (blk : BlockId)
  /-- RESET, the hardware reset input (R300). -/
  | reset (blk : BlockId)
  /-- LINK_ADMIT(d, f), the link agent's impairment decision (R182). -/
  | linkAdmit (d : Direction) (f : Frame)
  /-- LINK_DELIVER(d, f), the link agent's delivery (R184). -/
  | linkDeliver (d : Direction) (f : Frame)
  /-- SYS_TICK, the shared tick (R189). -/
  | sysTick
deriving DecidableEq, Repr

end Sys2Proof
end

