-- ==== Sys2Proof/WellFormed.lean ====
section
/-!
DEFINITION. WellFormed.lean: the checks on an operation as syntax. They are the match and mask columns of
spec/opcode_table.json that read the encoded bits alone; the conditions that read the state are the
meanings' own.
-/

namespace Sys2Proof

/-- The KIND byte of DATA frames (R96). -/
abbrev kindData : Byte := 0x01

/-- The KIND byte of ACK frames (R96). -/
abbrev kindAck : Byte := 0x02

/-- Does byte 4 of the frame, its KIND, exist and equal `k` (R95)? -/
def hasKind (k : Byte) (f : Frame) : Bool := f[4]? == some k

/-- Is OPCODE, bits [7:0] of a command word, in 0x0A to 0xFF (R99 step 1)? -/
def opcodeIllegal (w : Word) : Bool := decide (0x0A ≤ (w.setWidth 8).toNat)

/-- The checks: an illegal-opcode word has an illegal opcode; a row of a valid ACK has frame[4] = 0x02, and a
row of valid DATA has frame[4] = 0x01. Every other operand value is an operation of the block. -/
def Instr.wellFormed : Instr → Bool
  | .hostRead _ _ _ => true
  | .hostWrite _ _ _ _ => true
  | .nop _ _ => true
  | .txStart _ _ => true
  | .txSend _ _ _ => true
  | .txEnd _ _ => true
  | .txCancel _ _ => true
  | .rxReset _ _ => true
  | .rxRelease _ _ => true
  | .evqPop _ _ => true
  | .clrCounters _ _ => true
  | .softReset _ _ => true
  | .illegalOpcode _ w => opcodeIllegal w
  | .linkRx _ _ => true
  | .rxInvalid _ _ => true
  | .rxAckMatch _ f => hasKind kindAck f
  | .rxAckStale _ f => hasKind kindAck f
  | .rxData _ f => hasKind kindData f
  | .rxAccept _ f => hasKind kindData f
  | .rxSinkBusy _ f => hasKind kindData f
  | .rxDuplicate _ f => hasKind kindData f
  | .rxFuture _ f => hasKind kindData f
  | .linkTake _ => true
  | .tick _ => true
  | .expireRetransmit _ => true
  | .expireFail _ => true
  | .reset _ => true
  | .linkAdmit _ _ => true
  | .linkDeliver _ _ => true
  | .sysTick => true

end Sys2Proof
end

