-- ==== Sys2Proof/Decode.lean ====
section
/-!
DEFINITION. Decode.lean: from an operation record to an operation, and back.

The block fetches no instructions (R22, R82), and R91 gives the five formats no common binary form. An
operation that an agent offers is therefore written as a RECORD of bytes of this model's own (DESIGN CHOICE,
log entry 1): byte 0 says which row of spec/opcode_table.json it is, byte 1 the block or the link direction,
and the rest is the row's operands. Where the spec lays bits out they stand as it lays them out: the
command word of format CW (R92) whole, and the frame of format FR (R95) whole.

  0x01 blk width off[7:0] off[13:8]                 HOST_READ   (format HB)
  0x02 blk width off[7:0] off[13:8] w0 w1 w2 w3     HOST_WRITE  (format HB)
  0x03 blk w0 w1 w2 w3                              a command word (format CW), w0 = w[7:0]
  0x10 .. 0x18 blk f...                             LINK_RX and the rows it resolves into (format FR)
  0x20 .. 0x23 blk                                  LINK_TAKE, TICK, EXPIRE (format ST)
  0x30 blk                                          RESET (format RS)
  0x40 dir f... , 0x41 dir f... , 0x42              LINK_ADMIT, LINK_DELIVER, SYS_TICK
-/

namespace Sys2Proof

open Machine (wordOfLanes lanesOf opcodeOf reservedOf sendReservedOf lenOf commandWord sendWord)

/-- Why a record is no operation. -/
inductive DecodeError where
  /-- The record has no bytes. -/
  | emptyRecord
  /-- Byte 0 is no row's. -/
  | unknownTag
  /-- Byte 1 is neither 0 nor 1. -/
  | unknownAgent
  /-- The row has more or fewer operand bytes. -/
  | badLength
  /-- The offset has a bit set above its 14 (R91). -/
  | offsetTooWide
  /-- The frame's KIND is not the one the row has (the table's mask frame[4]). -/
  | wrongKind
deriving DecidableEq, Repr

/-- COMMAND's decoding of a command word (R93, R99, R123): every word is one operation. -/
def decodeCommand (blk : BlockId) (w : Word) : Instr :=
  match (opcodeOf w).toNat with
  | 0x00 => .nop blk (reservedOf w)
  | 0x01 => .txStart blk (reservedOf w)
  | 0x02 => .txSend blk (lenOf w) (sendReservedOf w)
  | 0x03 => .txEnd blk (reservedOf w)
  | 0x04 => .txCancel blk (reservedOf w)
  | 0x05 => .rxReset blk (reservedOf w)
  | 0x06 => .rxRelease blk (reservedOf w)
  | 0x07 => .evqPop blk (reservedOf w)
  | 0x08 => .clrCounters blk (reservedOf w)
  | 0x09 => .softReset blk (reservedOf w)
  | _ => .illegalOpcode blk w

/-- The block that byte 1 of a record names. -/
def decodeBlock (b : Byte) : Except DecodeError BlockId :=
  match b.toNat with
  | 0 => .ok .A
  | 1 => .ok .B
  | _ => .error .unknownAgent

/-- The link direction that byte 1 of a record names. -/
def decodeDirection (b : Byte) : Except DecodeError Direction :=
  match b.toNat with
  | 0 => .ok .aToB
  | 1 => .ok .bToA
  | _ => .error .unknownAgent

/-- The 14-bit offset of a host access, from its two bytes. -/
def decodeOffset (lo hi : Byte) : Except DecodeError Offset :=
  if hi.extractLsb' 6 2 = 0 then .ok (hi.extractLsb' 0 6 ++ lo) else .error .offsetTooWide

/-- The rest of a record without operands beyond byte 1. -/
def decodeStrobe (i : Instr) : List Byte → Except DecodeError Instr
  | [] => .ok i
  | _ :: _ => .error .badLength

/-- HOST_READ's operands. -/
def decodeHostRead (blk : BlockId) : List Byte → Except DecodeError Instr
  | [width, lo, hi] => (decodeOffset lo hi).map fun off => .hostRead blk width off
  | _ => .error .badLength

/-- HOST_WRITE's operands. -/
def decodeHostWrite (blk : BlockId) : List Byte → Except DecodeError Instr
  | [width, lo, hi, w0, w1, w2, w3] =>
    (decodeOffset lo hi).map fun off => .hostWrite blk width off (wordOfLanes w0 w1 w2 w3)
  | _ => .error .badLength

/-- The command word of format CW. -/
def decodeCommandBytes (blk : BlockId) : List Byte → Except DecodeError Instr
  | [w0, w1, w2, w3] => .ok (decodeCommand blk (wordOfLanes w0 w1 w2 w3))
  | _ => .error .badLength

/-- A row whose frame must carry KIND `k`. -/
def decodeKind (k : Byte) (f : Frame) (i : Instr) : Except DecodeError Instr :=
  if hasKind k f then .ok i else .error .wrongKind

/-- A record whose byte 0 is `tag` and whose byte 1 is `agent`. -/
def decodeTagged (tag : Nat) (agent : Byte) (rest : List Byte) : Except DecodeError Instr :=
  match tag with
  | 0x01 => (decodeBlock agent).bind fun b => decodeHostRead b rest
  | 0x02 => (decodeBlock agent).bind fun b => decodeHostWrite b rest
  | 0x03 => (decodeBlock agent).bind fun b => decodeCommandBytes b rest
  | 0x10 => (decodeBlock agent).map fun b => .linkRx b rest
  | 0x11 => (decodeBlock agent).map fun b => .rxInvalid b rest
  | 0x12 => (decodeBlock agent).bind fun b => decodeKind kindAck rest (.rxAckMatch b rest)
  | 0x13 => (decodeBlock agent).bind fun b => decodeKind kindAck rest (.rxAckStale b rest)
  | 0x14 => (decodeBlock agent).bind fun b => decodeKind kindData rest (.rxData b rest)
  | 0x15 => (decodeBlock agent).bind fun b => decodeKind kindData rest (.rxAccept b rest)
  | 0x16 => (decodeBlock agent).bind fun b => decodeKind kindData rest (.rxSinkBusy b rest)
  | 0x17 => (decodeBlock agent).bind fun b => decodeKind kindData rest (.rxDuplicate b rest)
  | 0x18 => (decodeBlock agent).bind fun b => decodeKind kindData rest (.rxFuture b rest)
  | 0x20 => (decodeBlock agent).bind fun b => decodeStrobe (.linkTake b) rest
  | 0x21 => (decodeBlock agent).bind fun b => decodeStrobe (.tick b) rest
  | 0x22 => (decodeBlock agent).bind fun b => decodeStrobe (.expireRetransmit b) rest
  | 0x23 => (decodeBlock agent).bind fun b => decodeStrobe (.expireFail b) rest
  | 0x30 => (decodeBlock agent).bind fun b => decodeStrobe (.reset b) rest
  | 0x40 => (decodeDirection agent).map fun d => .linkAdmit d rest
  | 0x41 => (decodeDirection agent).map fun d => .linkDeliver d rest
  | 0x42 => .error .badLength
  | _ => .error .unknownTag

/-- Is this byte 0 of some row's records? -/
def knownTag (tag : Nat) : Bool :=
  [0x01, 0x02, 0x03, 0x10, 0x11, 0x12, 0x13, 0x14, 0x15, 0x16, 0x17, 0x18, 0x20, 0x21, 0x22, 0x23, 0x30,
    0x40, 0x41, 0x42].contains tag

/-- The decoder: total on any bytes, and what it rejects it rejects by name. -/
def decode : OpRecord → Except DecodeError Instr
  | [] => .error .emptyRecord
  | [tag] =>
    if tag = 0x42 then .ok .sysTick
    else if knownTag tag.toNat then .error .badLength
    else .error .unknownTag
  | tag :: agent :: rest => decodeTagged tag.toNat agent rest

/-- Byte 1 for a block. -/
def encodeBlock : BlockId → Byte
  | .A => 0
  | .B => 1

/-- Byte 1 for a link direction. -/
def encodeDirection : Direction → Byte
  | .aToB => 0
  | .bToA => 1

/-- The two bytes of a 14-bit offset. -/
def encodeOffset (off : Offset) : List Byte :=
  [off.extractLsb' 0 8, (0 : BitVec 2) ++ off.extractLsb' 8 6]

/-- The record of a command word. -/
def encodeCommand (blk : BlockId) (w : Word) : OpRecord := 0x03 :: encodeBlock blk :: lanesOf w

/-- The encoder: the record of an operation. -/
def encode : Instr → OpRecord
  | .hostRead blk width off => 0x01 :: encodeBlock blk :: width :: encodeOffset off
  | .hostWrite blk width off data => 0x02 :: encodeBlock blk :: width :: (encodeOffset off ++ lanesOf data)
  | .nop blk rsvd => encodeCommand blk (commandWord 0x00 rsvd)
  | .txStart blk rsvd => encodeCommand blk (commandWord 0x01 rsvd)
  | .txSend blk len rsvd => encodeCommand blk (sendWord len rsvd)
  | .txEnd blk rsvd => encodeCommand blk (commandWord 0x03 rsvd)
  | .txCancel blk rsvd => encodeCommand blk (commandWord 0x04 rsvd)
  | .rxReset blk rsvd => encodeCommand blk (commandWord 0x05 rsvd)
  | .rxRelease blk rsvd => encodeCommand blk (commandWord 0x06 rsvd)
  | .evqPop blk rsvd => encodeCommand blk (commandWord 0x07 rsvd)
  | .clrCounters blk rsvd => encodeCommand blk (commandWord 0x08 rsvd)
  | .softReset blk rsvd => encodeCommand blk (commandWord 0x09 rsvd)
  | .illegalOpcode blk w => encodeCommand blk w
  | .linkRx blk f => 0x10 :: encodeBlock blk :: f
  | .rxInvalid blk f => 0x11 :: encodeBlock blk :: f
  | .rxAckMatch blk f => 0x12 :: encodeBlock blk :: f
  | .rxAckStale blk f => 0x13 :: encodeBlock blk :: f
  | .rxData blk f => 0x14 :: encodeBlock blk :: f
  | .rxAccept blk f => 0x15 :: encodeBlock blk :: f
  | .rxSinkBusy blk f => 0x16 :: encodeBlock blk :: f
  | .rxDuplicate blk f => 0x17 :: encodeBlock blk :: f
  | .rxFuture blk f => 0x18 :: encodeBlock blk :: f
  | .linkTake blk => [0x20, encodeBlock blk]
  | .tick blk => [0x21, encodeBlock blk]
  | .expireRetransmit blk => [0x22, encodeBlock blk]
  | .expireFail blk => [0x23, encodeBlock blk]
  | .reset blk => [0x30, encodeBlock blk]
  | .linkAdmit d f => 0x40 :: encodeDirection d :: f
  | .linkDeliver d f => 0x41 :: encodeDirection d :: f
  | .sysTick => [0x42]

/-- The record of a word whose bits spec/opcode_table.json numbers. The table gives bits only to command
words (format CW), so the record is a command word's, issued to block A (log entry 2). -/
def tableRecord (nbits w : Nat) : OpRecord := encodeCommand .A (BitVec.ofNat 32 (w % 2 ^ nbits))

/-- What the decoder reads from a word whose bits spec/opcode_table.json numbers. -/
def decodeTableWord (nbits w : Nat) : Option Instr := (decode (tableRecord nbits w)).toOption

end Sys2Proof
end

