-- ==== Sys2Proof/Machine/State.lean ====
section
/-!
DEFINITION. State.lean: the state of the reference system of R4: two blocks (R20), the link agent between
them (R181), and the operations the agents offer. Plain data throughout.
-/

namespace Sys2Proof.Machine

/-- `TX_STATE`, the sender's control state (R32, R200). -/
inductive TxState where
  | idle
  | awaitingAck
  | done
  | failed
deriving DecidableEq, Repr

/-- `FAIL_CAUSE` (R32). The value 3 is never written, so it is no value here. -/
inductive FailCause where
  | none
  | retryExhausted
  | cancelled
deriving DecidableEq, Repr

/-- The codes a command error carries (R270). A command that completes ends with OK = 0x00 instead. -/
inductive CmdError where
  | illegalOpcode
  | wrongState
  | badLength
  | seqExhausted
  | reservedBits
  | empty
deriving DecidableEq, Repr

/-- The five bits of IRQ_STATUS and IRQ_ENABLE (R29, R275). -/
inductive IrqBit where
  | txDone
  | txFailed
  | rxDeliver
  | evqOverflow
  | cmdErr
deriving DecidableEq, Repr

/-- The event codes that are ever pushed (R286). -/
inductive EventCode where
  | pktSent
  | retransmit
  | ackReceived
  | staleAck
  | transferDone
  | transferFailed
  | dataAccepted
  | duplicate
  | futureDiscard
  | ackSent
  | decodeFail
  | checksumFail
  | sinkBusy
deriving DecidableEq, Repr

/-- One entry of the event queue (R47). -/
structure Event where
  code : EventCode
  sub : Byte
  seq : Word
deriving DecidableEq, Repr

/-- The fourteen counters (R48), in the order of their offsets 0x060 to 0x094. -/
inductive Counter where
  | txData
  | retx
  | txAck
  | rxFrames
  | decodeFail
  | csumFail
  | rxAccept
  | rxDup
  | rxFuture
  | rxSinkBusy
  | staleAck
  | evqOverflow
  | txqDrop
  | matchAck
deriving DecidableEq, Repr

/-- The values of the fourteen counters (R48). -/
structure Counters where
  txData : Word
  retx : Word
  txAck : Word
  rxFrames : Word
  decodeFail : Word
  csumFail : Word
  rxAccept : Word
  rxDup : Word
  rxFuture : Word
  rxSinkBusy : Word
  staleAck : Word
  evqOverflow : Word
  txqDrop : Word
  matchAck : Word
deriving DecidableEq, Repr

/-- A payload buffer, TXBUF or RXBUF (R40, R42): the bytes written since the last reset, with their buffer
indexes strictly rising. A byte that is not listed is UNSPECIFIED (Ops.lean, `Memory.byteOr`). -/
abbrev Memory := List Host.Cell

/-- `RETX`, the held frame (R41). -/
inductive HeldFrame where
  /-- The UNSPECIFIED content that the `n`-th reset leaves: the free value `Config.freeFrame n`. -/
  | unspecified (n : Nat)
  /-- The frame of the last TX_SEND. -/
  | held (f : Frame)
deriving DecidableEq, Repr

/-- The state of one block: the tuple of R20, with the block's parameters beside it. -/
structure Block where
  /-- The block's sizes (R5). Configuration: no operation writes it. -/
  par : Params
  -- sender session (R32 to R37)
  txState : TxState
  nextSeq : SessionSeq
  pendingValid : Bool
  pendingSeq : Word
  pendingLen : Half
  retriesUsed : Half
  timerRem : Word
  failCause : FailCause
  -- receiver session (R43 to R46)
  expSeq : SessionSeq
  deliverValid : Bool
  deliverSeq : Word
  deliverLen : Half
  -- configuration registers (R30, R38, R39)
  timeout : Word
  maxRetries : Half
  irqEnable : BitVec 5
  -- time base (R31)
  now : Word
  -- status and reporting (R28, R29, R47, R48)
  cmdStatus : Word
  irqStatus : BitVec 5
  evq : List Event
  counters : Counters
  -- buffers (R40 to R42) and the link output queue (R49)
  txbuf : Memory
  retx : HeldFrame
  rxbuf : Memory
  txq : List Frame
  -- model-only marks (R50, R51)
  hostFault : Bool
  delivered : List Frame
  /-- THE MODEL'S OWN: the word the last HOST_READ of this block returned to its host (log entry 3). -/
  readData : Word
deriving DecidableEq, Repr

/-- What the link agent recorded (R187). -/
inductive LinkRecord where
  /-- "packet dropped-by-simulator" -/
  | dropped (d : Direction) (f : Frame)
  /-- "packet corrupted-by-simulator"; `f` is the frame as it came from the block. -/
  | corrupted (d : Direction) (f : Frame)
deriving DecidableEq, Repr

/-- The state of the link agent (R181). -/
structure Link where
  /-- `LINK_MODEL` (R185). Configuration: no operation writes it. -/
  model : LinkModel
  /-- The impairment profile of each direction (R181). Configuration: no operation writes it. -/
  profileAB : Profile
  profileBA : Profile
  /-- `FLIGHT_d`: frames in flight and the ticks left before each is due (R181). A multiset: it is listed in
  order of admission, and no rule gives the order a meaning (R184). -/
  flightAB : List (Frame × Nat)
  flightBA : List (Frame × Nat)
  /-- THE MODEL'S OWN: resolutions of the next choices of LINK_ADMIT, first to last; when none is left the
  choice is a free value (log entry 6). -/
  choices : List LinkChoice
  /-- The link agent's ghost trace (R187). -/
  trace : List LinkRecord
deriving DecidableEq, Repr

/-- The state of the reference system (R4). -/
structure State where
  blockA : Block
  blockB : Block
  link : Link
  /-- THE MODEL'S OWN: the operations the agents offer, as records, in the order in which they are to run
  (R6, R78; log entry 2). -/
  offered : List OpRecord
  /-- THE MODEL'S OWN: how many draws of free values have been numbered (log entry 4). -/
  draws : Nat
deriving DecidableEq, Repr

/-- Reasons for the machine to stop with a fault. There is none: no operation of the block is ever `stuck`
(93_implementation_defined.md), and a host fault is a NEXT state that records HOSTFAULT (R121, U5). -/
inductive Fault
deriving DecidableEq, Repr

/-- Reasons for having no meaning for an input (R7 (c)). -/
inductive Refusal where
  /-- Raised by an arm of exec that has no meaning yet. Safe: the machine stops. -/
  | notModelled (mnemonic : String)
  /-- Raised by step on a record that spells no operation. Safe: the machine stops. -/
  | undecodable (why : DecodeError)
  /-- Raised by step on an operation that is not well-formed. The decoder gives none. Safe. -/
  | illFormed
  /-- Raised by LINK_TAKE, LINK_DELIVER, TICK, EXPIRE and SYS_TICK where the operation is not enabled (R180, R184,
  R189, R280). Safe: the machine stops where the operation cannot occur. -/
  | notEnabled
  /-- Raised by the rows that name one case of LINK_RX or of TICK (RX_INVALID to RX_FUTURE, EXPIRE) where the
  state or the frame is not in that case. Safe: the machine stops where the case does not arise. -/
  | notThisCase
deriving DecidableEq, Repr

/-- The outcome of an operation (R7). -/
abbrev StepOutcome := Host.Outcome State Fault Refusal

/-- All fourteen counters at 0 (R48, R300). -/
def Counters.zero : Counters :=
  { txData := 0, retx := 0, txAck := 0, rxFrames := 0, decodeFail := 0, csumFail := 0, rxAccept := 0,
    rxDup := 0, rxFuture := 0, rxSinkBusy := 0, staleAck := 0, evqOverflow := 0, txqDrop := 0, matchAck := 0 }

/-- A block right after its first reset (R300), with the `n`-th unspecified RETX content. -/
def Block.afterReset (par : Params) (n : Nat) : Block :=
  { par := par
    txState := .idle, nextSeq := 0, pendingValid := false, pendingSeq := 0, pendingLen := 0
    retriesUsed := 0, timerRem := 0, failCause := .none
    expSeq := 0, deliverValid := false, deliverSeq := 0, deliverLen := 0
    timeout := 0, maxRetries := 0, irqEnable := 0
    now := 0
    cmdStatus := 0, irqStatus := 0, evq := [], counters := Counters.zero
    txbuf := [], retx := .unspecified n, rxbuf := [], txq := []
    hostFault := false, delivered := [], readData := 0 }

/-- The profile of a direction without loss, corruption or delay (log entry 7). -/
def idealProfile : Profile := { loss := .never, corruption := .never, delayMin := 0, delayMax := 0 }

/-- The link agent at launch: nothing in flight (R181). The model and the profiles are open parameters (R5,
R185), set here by log entry 7. -/
def Link.launch : Link :=
  { model := .simulator, profileAB := idealProfile, profileBA := idealProfile, flightAB := [], flightBA := []
    choices := [], trace := [] }

/-- The machine right after RESET on every block (R300, R284, R301), with nothing offered yet. The sizes are
R5's defaults. -/
def State.reset : State :=
  { blockA := Block.afterReset Params.standard 0
    blockB := Block.afterReset Params.standard 1
    link := Link.launch
    offered := []
    draws := 2 }

end Sys2Proof.Machine
end

