-- ==== Sys2Proof/Machine/Flags.lean ====
section
/-!
DEFINITION. Flags.lean: every flag and status word of the block: the IRQ bits and the interrupt output (R29,
R275, R276), TX_STATUS and RX_STATUS (R32, R43), CMD_STATUS (R28), the event queue's words (R47) and the codes
they show (R270, R271, R286).
-/

namespace Sys2Proof.Machine

/-- The mask of one bit of IRQ_STATUS (R275). -/
def IrqBit.mask : IrqBit → BitVec 5
  | .txDone => 0b00001
  | .txFailed => 0b00010
  | .rxDeliver => 0b00100
  | .evqOverflow => 0b01000
  | .cmdErr => 0b10000

/-- IRQ_STATUS after `set_irq(bit)` (R275). IRQ_ENABLE does not gate it. -/
def irqSet (bit : IrqBit) (status : BitVec 5) : BitVec 5 := status ||| bit.mask

/-- IRQ_STATUS after a W1C write of `v` (R29, R122). -/
def irqCleared (v : Word) (status : BitVec 5) : BitVec 5 := status &&& ~~~(v.extractLsb' 0 5)

/-- The interrupt output `IRQ` (R276). -/
def Block.irq (b : Block) : Bool := (b.irqStatus &&& b.irqEnable) != 0

/-- The result codes of commands (R270); none is OK. -/
def resultCode : Option CmdError → Byte
  | none => 0x00
  | some .illegalOpcode => 0x01
  | some .wrongState => 0x02
  | some .badLength => 0x03
  | some .seqExhausted => 0x04
  | some .reservedBits => 0x05
  | some .empty => 0x06

/-- CMD_STATUS after a command (R28, R124). -/
def cmdStatusWord (op : Byte) (result : Option CmdError) : Word := (0 : Half) ++ op ++ resultCode result

/-- TX_STATUS.STATE (R32). -/
def TxState.code : TxState → BitVec 2
  | .idle => 0
  | .awaitingAck => 1
  | .done => 2
  | .failed => 3

/-- TX_STATUS.FAIL_CAUSE (R32). -/
def FailCause.code : FailCause → BitVec 2
  | .none => 0
  | .retryExhausted => 1
  | .cancelled => 2

/-- SEQ_EXH, TX_STATUS[3] (R32). -/
def Block.seqExhausted (b : Block) : Bool := b.nextSeq.getLsbD 32

/-- EXP_EXH, RX_STATUS[0] (R43). -/
def Block.expExhausted (b : Block) : Bool := b.expSeq.getLsbD 32

/-- TX_STATUS (R32). -/
def Block.txStatus (b : Block) : Word :=
  (0 : BitVec 26) ++ b.failCause.code ++ BitVec.ofBool b.seqExhausted ++ BitVec.ofBool b.pendingValid ++
    b.txState.code

/-- RX_STATUS (R43). -/
def Block.rxStatus (b : Block) : Word :=
  (0 : BitVec 30) ++ BitVec.ofBool b.deliverValid ++ BitVec.ofBool b.expExhausted

/-- The event codes (R286). -/
def EventCode.code : EventCode → Byte
  | .pktSent => 0x01
  | .retransmit => 0x02
  | .ackReceived => 0x03
  | .staleAck => 0x04
  | .transferDone => 0x05
  | .transferFailed => 0x06
  | .dataAccepted => 0x07
  | .duplicate => 0x08
  | .futureDiscard => 0x09
  | .ackSent => 0x0A
  | .decodeFail => 0x0B
  | .checksumFail => 0x0C
  | .sinkBusy => 0x0D

/-- EVQ_STATUS: COUNT in bits [7:0] (R47). -/
def Block.evqStatus (b : Block) : Word := (0 : BitVec 24) ++ BitVec.ofNat 8 b.evq.length

/-- EVQ_HEAD: VALID, SUB and CODE of the oldest entry, or 0 (R47). -/
def Block.evqHead (b : Block) : Word :=
  match b.evq with
  | [] => 0
  | e :: _ => (1 : BitVec 1) ++ (0 : BitVec 15) ++ e.sub ++ e.code.code

/-- EVQ_HEAD_SEQ: SEQ of the oldest entry, or 0 (R47). -/
def Block.evqHeadSeq (b : Block) : Word :=
  match b.evq with
  | [] => 0
  | e :: _ => e.seq

/-- PARAM: the sizes of the block (R25). -/
def paramWord (p : Params) : Word :=
  BitVec.ofNat 8 p.txqDepth ++ BitVec.ofNat 8 p.evqDepth ++ BitVec.ofNat 16 p.maxPayload

/-- ID (R24): ASCII "RUDP". -/
def idWord : Word := 0x52554450

/-- VERSION (R26). -/
def versionWord : Word := 0x00070001

end Sys2Proof.Machine
end

