-- ==== Sys2Proof/Machine/Ops.lean ====
section
/-!
DEFINITION. Ops.lean: the named operations over buffers, registers, counters and queues that the meanings are
built from (00_scope.md rule R10): buffers, `cnt`, `push_event`, `set_irq`, `emit_frame`, the recording of a
command's result, the host fault, the reset assignments.
-/

namespace Sys2Proof.Machine

/-! ### Buffers -/

/-- The canonical form of a buffer: indexes strictly rising. What an unlisted byte reads as is no fixed
value, so no entry is redundant. -/
def Memory.wf : Memory → Bool
  | [] => true
  | [_] => true
  | c :: d :: rest => decide (c.1 < d.1) && Memory.wf (d :: rest)

/-- The byte an index holds, or none where nothing has written it since reset. -/
def Memory.load? : Memory → Nat → Option Byte
  | [], _ => none
  | (j, x) :: rest, i => if i = j then some x else Memory.load? rest i

/-- Store one byte. -/
def Memory.store (i : Nat) (x : Byte) : Memory → Memory
  | [] => [(i, x)]
  | (j, y) :: rest =>
    if i < j then (i, x) :: (j, y) :: rest
    else if i = j then (i, x) :: rest
    else (j, y) :: Memory.store i x rest

/-- Store bytes from index `i` on, leaving out those at `limit` and above (R72, R122, R241). -/
def Memory.storeBelow (limit : Nat) : Nat → List Byte → Memory → Memory
  | _, [], m => m
  | i, x :: xs, m => Memory.storeBelow limit (i + 1) xs (if i < limit then Memory.store i x m else m)

/-- What an unlisted byte reads as: UNSPECIFIED, any value, here `fill i` (R40, R42, U1 to U3). The step
supplies `fill` from `Config.freeByte`. -/
def Memory.byteOr (fill : Nat → Byte) (m : Memory) (i : Nat) : Byte := (Memory.load? m i).getD (fill i)

/-- `byte(BUF, i)` of HOST_READ (R120). -/
def Memory.windowByte (limit : Nat) (fill : Nat → Byte) (m : Memory) (i : Nat) : Byte :=
  if i < limit then Memory.byteOr fill m i else 0

/-- The host's word at byte `j` of a buffer window (R72, R120). -/
def Memory.windowWord (limit : Nat) (fill : Nat → Byte) (m : Memory) (j : Nat) : Word :=
  wordOfLanes (Memory.windowByte limit fill m j) (Memory.windowByte limit fill m (j + 1))
    (Memory.windowByte limit fill m (j + 2)) (Memory.windowByte limit fill m (j + 3))

/-- `[BUF[0], ..., BUF[n-1]]` (R204). -/
def Memory.firstBytes (fill : Nat → Byte) (m : Memory) (n : Nat) : Frame :=
  (List.range n).map (Memory.byteOr fill m)

/-! ### Counters -/

/-- The value of a counter (R48). -/
def Counters.get (k : Counters) : Counter → Word
  | .txData => k.txData
  | .retx => k.retx
  | .txAck => k.txAck
  | .rxFrames => k.rxFrames
  | .decodeFail => k.decodeFail
  | .csumFail => k.csumFail
  | .rxAccept => k.rxAccept
  | .rxDup => k.rxDup
  | .rxFuture => k.rxFuture
  | .rxSinkBusy => k.rxSinkBusy
  | .staleAck => k.staleAck
  | .evqOverflow => k.evqOverflow
  | .txqDrop => k.txqDrop
  | .matchAck => k.matchAck

/-- Increment a counter modulo 2^32 (R10, R48). -/
def Counters.bump (c : Counter) (k : Counters) : Counters :=
  match c with
  | .txData => { k with txData := k.txData + 1 }
  | .retx => { k with retx := k.retx + 1 }
  | .txAck => { k with txAck := k.txAck + 1 }
  | .rxFrames => { k with rxFrames := k.rxFrames + 1 }
  | .decodeFail => { k with decodeFail := k.decodeFail + 1 }
  | .csumFail => { k with csumFail := k.csumFail + 1 }
  | .rxAccept => { k with rxAccept := k.rxAccept + 1 }
  | .rxDup => { k with rxDup := k.rxDup + 1 }
  | .rxFuture => { k with rxFuture := k.rxFuture + 1 }
  | .rxSinkBusy => { k with rxSinkBusy := k.rxSinkBusy + 1 }
  | .staleAck => { k with staleAck := k.staleAck + 1 }
  | .evqOverflow => { k with evqOverflow := k.evqOverflow + 1 }
  | .txqDrop => { k with txqDrop := k.txqDrop + 1 }
  | .matchAck => { k with matchAck := k.matchAck + 1 }

/-- `cnt(NAME)` (R10). -/
def Block.cnt (c : Counter) (b : Block) : Block := { b with counters := b.counters.bump c }

/-! ### Interrupt bits, events, frames -/

/-- `set_irq(bit)` (R275). -/
def Block.setIrq (bit : IrqBit) (b : Block) : Block := { b with irqStatus := irqSet bit b.irqStatus }

/-- Has the event queue room (R285)? -/
def Block.evqRoom (b : Block) : Bool := decide (b.evq.length < b.par.evqDepth)

/-- `push_event(code, sub, seq)` (R285): the entry joins the queue, or it is lost, counted and flagged. -/
def Block.pushEvent (code : EventCode) (sub : Byte) (seq : Word) (b : Block) : Block :=
  { b with
    evq := if b.evqRoom then b.evq ++ [⟨code, sub, seq⟩] else b.evq
    counters := if b.evqRoom then b.counters else b.counters.bump .evqOverflow
    irqStatus := if b.evqRoom then b.irqStatus else irqSet .evqOverflow b.irqStatus }

/-- Has the link output queue room (R76)? -/
def Block.txqRoom (b : Block) : Bool := decide (b.txq.length < b.par.txqDepth)

/-- `emit_frame(f)` (R76): the frame joins TXQ whole, or it is lost and counted. -/
def Block.emitFrame (f : Frame) (b : Block) : Block :=
  { b with
    txq := if b.txqRoom then b.txq ++ [f] else b.txq
    counters := if b.txqRoom then b.counters else b.counters.bump .txqDrop }

/-! ### The end of a command: the block's one form of exception (R277) -/

/-- `record(op, result)` (R124): every command ends with it, and a command error is nothing else (R270). -/
def Block.record (op : Byte) (result : Option CmdError) (b : Block) : Block :=
  { b with
    cmdStatus := cmdStatusWord op result
    irqStatus := if result.isNone then b.irqStatus else irqSet .cmdErr b.irqStatus }

/-- The end of a command that ran to `r` from `b` (R123): its own effect and OK, or no effect and the code. -/
def Block.finish (op : Byte) (r : Except CmdError Block) (b : Block) : Block :=
  match r with
  | .ok b' => b'.record op none
  | .error e => b.record op (some e)

/-- A command whose reserved bits are `rsvd` (R99, R123): they must be 0 before its own rule `run` counts. -/
def Block.issue {n : Nat} (op : Byte) (rsvd : BitVec n) (run : Block → Except CmdError Block) (b : Block) :
    Block :=
  if rsvd = 0 then b.finish op (run b) else b.record op (some .reservedBits)

/-! ### The interface contract -/

/-- Why an access breaks the interface contract (R121). -/
inductive HostFaultReason where
  | width
  | misaligned
deriving DecidableEq, Repr

/-- The reason of an access of `width` bytes at `off`, or none for a legal access (R121). -/
def hostFaultOf (width : Byte) (off : Offset) : Option HostFaultReason :=
  if width ≠ 4 then some .width
  else if off.extractLsb' 0 2 ≠ 0 then some .misaligned
  else none

/-- `raise HostFault(reason)` (R121): HOSTFAULT is set, and no other state changes. -/
def Block.raiseHostFault (b : Block) : Block := { b with hostFault := true }

/-- The UNSPECIFIED word that a faulted read returns (R121, U5). -/
def unspecifiedWord (fill : Nat → Byte) : Word := wordOfLanes (fill 0) (fill 1) (fill 2) (fill 3)

/-! ### Reset -/

/-- The reset assignments (R300). HOSTFAULT is unchanged; the buffers are UNSPECIFIED; `n` numbers the content
that RETX is left with. The parameters, and the host's own latch of read data, are no block state. -/
def Block.resetAssign (n : Nat) (b : Block) : Block :=
  { Block.afterReset b.par n with hostFault := b.hostFault, readData := b.readData }

/-! ### Blocks of the system -/

/-- A block of the system. -/
def State.block (s : State) : BlockId → Block
  | .A => s.blockA
  | .B => s.blockB

/-- The system with one block replaced. -/
def State.setBlock (s : State) (blk : BlockId) (b : Block) : State :=
  match blk with
  | .A => { s with blockA := b }
  | .B => { s with blockB := b }

/-- An atomic operation of one block (R6). -/
def State.onBlock (blk : BlockId) (f : Block → Block) (s : State) : State := s.setBlock blk (f (s.block blk))

/-- The free bytes of this step: one draw for each byte index (R120, U1 to U3). -/
def State.fill (s : State) : Nat → Byte := Config.freeByte s.draws

end Sys2Proof.Machine
end

