-- ==== Sys2Proof/Machine/Codec.lean ====
section
/-!
DEFINITION. Codec.lean: the checksum, the packet framer and the checksum verifier (41_codec.md rules R150, R152
and R155).
-/

namespace Sys2Proof.Machine

/-- One of the eight shifts per byte of `crc16` (R150). -/
def crcShift (c : Half) : Half := if c.msb then (c <<< 1) ^^^ 0x1021 else c <<< 1

/-- `k` shifts. -/
def crcShifts : Nat → Half → Half
  | 0, c => c
  | k + 1, c => crcShifts k (crcShift c)

/-- `crc16`'s step for one byte (R150). -/
def crcByte (c : Half) (x : Byte) : Half := crcShifts 8 (c ^^^ (x.setWidth 16 <<< 8))

/-- `crc16(b)` (R150). -/
def crc16 (b : List Byte) : Half := b.foldl crcByte 0xFFFF

/-- The frame kinds (R96). -/
inductive FrameKind where
  | data
  | ack
deriving DecidableEq, Repr

/-- The KIND byte (R96). -/
def FrameKind.byte : FrameKind → Byte
  | .data => kindData
  | .ack => kindAck

/-- The checksummed part of a frame: KIND, SEQ, LEN and PAYLOAD (R97). -/
def frameBody (kind : FrameKind) (seq : Word) (payload : Frame) : Frame :=
  kind.byte :: (be32 seq ++ be16 (BitVec.ofNat 16 payload.length) ++ payload)

/-- `encode(kind, seq, payload, ts)`, the framer (R152). -/
def frameEncode (kind : FrameKind) (seq : Word) (payload : Frame) (ts : Word) : Frame :=
  be32 ts ++ frameBody kind seq payload ++ be16 (crc16 (frameBody kind seq payload))

/-- The structural failures (R155, R271). -/
inductive DecodeSub where
  | short
  | oversize
  | length
  | badKind
  | ackPayload
deriving DecidableEq, Repr

/-- The sub-code of a structural failure (R271). -/
def DecodeSub.code : DecodeSub → Byte
  | .short => 0x01
  | .oversize => 0x02
  | .length => 0x03
  | .badKind => 0x04
  | .ackPayload => 0x05

/-- The verifier's three results (R155). -/
inductive Verdict where
  | valid (kind : FrameKind) (seq : Word) (payload : Frame) (ts : Word)
  | decodeFail (sub : DecodeSub)
  | checksumFail (seqCarried : Word)
deriving DecidableEq, Repr

/-- The kind that a KIND byte spells, if any (R96). -/
def kindOf (k : Byte) : Option FrameKind :=
  if k = kindData then some .data else if k = kindAck then some .ack else none

/-- LEN of a frame (R95). -/
def frameLen (f : Frame) : Nat := (rdBe16 f 9).toNat

/-- The end of `decode`, once the frame has passed the structural checks: the checksum (R155). -/
def checkCrc (kind : FrameKind) (len : Nat) (f : Frame) : Verdict :=
  if crc16 (slice f 4 (7 + len)) ≠ rdBe16 f (11 + len) then .checksumFail (rdBe32 f 5)
  else .valid kind (rdBe32 f 5) (slice f 11 len) (rdBe32 f 0)

/-- `decode(f)`, the verifier, with its checks in R155's order. -/
def frameDecode (maxPayload : Nat) (f : Frame) : Verdict :=
  if f.length < 13 then .decodeFail .short
  else if frameLen f > maxPayload then .decodeFail .oversize
  else if f.length ≠ 13 + frameLen f then .decodeFail .length
  else
    match kindOf (byteAt f 4) with
    | none => .decodeFail .badKind
    | some kind =>
      if kind = .ack ∧ frameLen f ≠ 0 then .decodeFail .ackPayload
      else checkCrc kind (frameLen f) f

/-- The verdict of a block on a frame. -/
def Block.verdict (b : Block) (f : Frame) : Verdict := frameDecode b.par.maxPayload f

end Sys2Proof.Machine
end

