-- ==== Sys2Proof/Machine/Receiver.lean ====
section
/-!
DEFINITION. Receiver.lean: the receiver sequencer and ACK generation (44_receiver.md): RX_DATA and its four
outcomes, SEND_ACK, RX_RESET and RX_RELEASE.
-/

namespace Sys2Proof.Machine

/-- SEND_ACK(s) (R245). -/
def Block.sendAck (s : Word) (b : Block) : Block :=
  ((b.emitFrame (frameEncode .ack s [] b.now)).cnt .txAck).pushEvent .ackSent 0 s

/-- RX_ACCEPT's writes to the receiver session and RXBUF (R241). -/
def Block.takePayload (s : Word) (p : Frame) (b : Block) : Block :=
  { b with
    rxbuf := Memory.storeBelow b.par.maxPayload 0 p b.rxbuf
    deliverLen := BitVec.ofNat 16 p.length, deliverSeq := s, deliverValid := true
    delivered := b.delivered ++ [p]
    expSeq := b.expSeq + 1 }

/-- RX_ACCEPT(s, p) (R241). -/
def Block.rxAccept (s : Word) (p : Frame) (b : Block) : Block :=
  (((((b.takePayload s p).cnt .rxAccept).setIrq .rxDeliver).pushEvent .dataAccepted 0 s).sendAck s)

/-- RX_SINK_BUSY(s) (R242). -/
def Block.rxSinkBusy (s : Word) (b : Block) : Block := (b.cnt .rxSinkBusy).pushEvent .sinkBusy 0 s

/-- RX_DUPLICATE(s) (R243). -/
def Block.rxDuplicate (s : Word) (b : Block) : Block := ((b.cnt .rxDup).pushEvent .duplicate 0 s).sendAck s

/-- RX_FUTURE(s) (R244). -/
def Block.rxFuture (s : Word) (b : Block) : Block := (b.cnt .rxFuture).pushEvent .futureDiscard 0 s

/-- The four classes of a valid DATA frame (R240). -/
inductive DataClass where
  | accept
  | sinkBusy
  | duplicate
  | future
deriving DecidableEq, Repr

/-- The class of sequence `s` (R240). -/
def Block.classify (s : Word) (b : Block) : DataClass :=
  if zext33 s = b.expSeq then
    if b.deliverValid then .sinkBusy else .accept
  else if (zext33 s).toNat < b.expSeq.toNat then .duplicate
  else .future

/-- RX_DATA(s, p) (R240). -/
def Block.rxData (s : Word) (p : Frame) (b : Block) : Block :=
  match b.classify s with
  | .accept => b.rxAccept s p
  | .sinkBusy => b.rxSinkBusy s
  | .duplicate => b.rxDuplicate s
  | .future => b.rxFuture s

/-- RX_RESET's own rule (R248). -/
def Block.rxReset (b : Block) : Except CmdError Block := .ok { b with expSeq := 0, delivered := [] }

/-- RX_RELEASE's own rule (R249). -/
def Block.rxRelease (b : Block) : Except CmdError Block :=
  if b.deliverValid then .ok { b with deliverValid := false } else .error .empty

/-! ### The meanings -/

/-- The row of a valid DATA frame: rule `run` for its sequence and payload where `cond` holds of the
sequence's class (R240 to R244). -/
def onData (blk : BlockId) (f : Frame) (cond : DataClass → Bool) (run : Word → Frame → Block → Block) (s : State) :
    StepOutcome :=
  match (s.block blk).verdict f with
  | .valid .data seq p _ =>
    if cond ((s.block blk).classify seq) then .next (s.onBlock blk (run seq p)) else .refused .notThisCase
  | .valid .ack _ _ _ => .refused .notThisCase
  | .decodeFail _ => .refused .notThisCase
  | .checksumFail _ => .refused .notThisCase

/-- RX_DATA (R240). -/
def execRxData (blk : BlockId) (f : Frame) (s : State) : StepOutcome :=
  onData blk f (fun _ => true) Block.rxData s

/-- RX_ACCEPT (R241). -/
def execRxAccept (blk : BlockId) (f : Frame) (s : State) : StepOutcome :=
  onData blk f (· == .accept) Block.rxAccept s

/-- RX_SINK_BUSY (R242). -/
def execRxSinkBusy (blk : BlockId) (f : Frame) (s : State) : StepOutcome :=
  onData blk f (· == .sinkBusy) (fun seq _ => Block.rxSinkBusy seq) s

/-- RX_DUPLICATE (R243). -/
def execRxDuplicate (blk : BlockId) (f : Frame) (s : State) : StepOutcome :=
  onData blk f (· == .duplicate) (fun seq _ => Block.rxDuplicate seq) s

/-- RX_FUTURE (R244). -/
def execRxFuture (blk : BlockId) (f : Frame) (s : State) : StepOutcome :=
  onData blk f (· == .future) (fun seq _ => Block.rxFuture seq) s

/-- RX_RESET (R99, R123, R248). -/
def execRxReset (blk : BlockId) (rsvd : BitVec 24) (s : State) : StepOutcome :=
  .next (s.onBlock blk (Block.issue 0x05 rsvd Block.rxReset))

/-- RX_RELEASE (R99, R123, R249). -/
def execRxRelease (blk : BlockId) (rsvd : BitVec 24) (s : State) : StepOutcome :=
  .next (s.onBlock blk (Block.issue 0x06 rsvd Block.rxRelease))

end Sys2Proof.Machine
end

