-- ==== Sys2Proof/Machine/Sender.lean ====
section
/-!
DEFINITION. Sender.lean: the sender sequencer and the retransmission timer (43_sender.md): TX_START, TX_SEND,
TX_END, TX_CANCEL, RX_ACK, TICK and EXPIRE.
-/

namespace Sys2Proof.Machine

/-! ### Commands -/

/-- TX_START's own rule (R202). DEDUCED (log entry 14): PENDING_SEQ, PENDING_LEN and RETRIES_USED keep their last values
until the next TX_SEND, as R34 to R36 and D35 say, against three assignments of R202's pseudocode. -/
def Block.txStart (b : Block) : Except CmdError Block :=
  if b.txState = .awaitingAck then .error .wrongState
  else .ok { b with
    txState := .idle, nextSeq := 0, pendingValid := false, timerRem := 0, failCause := .none }

/-- The sequence number the next fragment gets, NEXT_SEQ[31:0] (R33, R204). -/
def Block.wireSeq (b : Block) : Word := b.nextSeq.setWidth 32

/-- The DATA frame that TX_SEND builds from TXBUF (R204). -/
def Block.fragmentFrame (len : Half) (fill : Nat → Byte) (b : Block) : Frame :=
  frameEncode .data b.wireSeq (Memory.firstBytes fill b.txbuf len.toNat) b.now

/-- TX_SEND's writes to the sender session, for the frame `f` (R204). -/
def Block.holdFrame (len : Half) (f : Frame) (b : Block) : Block :=
  { b with
    retx := .held f
    pendingSeq := b.wireSeq, pendingLen := len, pendingValid := true
    retriesUsed := 0, timerRem := b.timeout, txState := .awaitingAck }

/-- TX_SEND once its three checks have passed (R204). -/
def Block.sendFragment (len : Half) (fill : Nat → Byte) (b : Block) : Block :=
  ((((b.holdFrame len (b.fragmentFrame len fill)).emitFrame (b.fragmentFrame len fill)).cnt .txData).pushEvent
    .pktSent 0 b.wireSeq)

/-- TX_SEND's own rule (R204), its checks in the order given there. -/
def Block.txSend (len : Half) (fill : Nat → Byte) (b : Block) : Except CmdError Block :=
  if b.txState ≠ .idle then .error .wrongState
  else if b.par.maxPayload < len.toNat then .error .badLength
  else if b.nextSeq = seqLimit then .error .seqExhausted
  else .ok (b.sendFragment len fill)

/-- TX_END's own rule (R208). -/
def Block.txEnd (b : Block) : Except CmdError Block :=
  if b.txState ≠ .idle then .error .wrongState
  else .ok ((({ b with txState := .done }).setIrq .txDone).pushEvent .transferDone 0 b.wireSeq)

/-- The sequence that TRANSFER_FAILED reports for a cancel (R210). -/
def Block.cancelSeq (b : Block) : Word := if b.pendingValid then b.pendingSeq else b.wireSeq

/-- The sender enters FAILED (R210, R218). -/
def Block.failWith (cause : FailCause) (b : Block) : Block :=
  ({ b with txState := .failed, failCause := cause, pendingValid := false, timerRem := 0 }).setIrq .txFailed

/-- TX_CANCEL's own rule (R210). -/
def Block.txCancel (b : Block) : Except CmdError Block :=
  if b.txState ≠ .idle ∧ b.txState ≠ .awaitingAck then .error .wrongState
  else .ok ((b.failWith .cancelled).pushEvent .transferFailed 2 b.cancelSeq)

/-! ### ACK arrival -/

/-- Rule R206's condition. -/
def Block.ackMatches (s : Word) (b : Block) : Bool := decide (b.txState = .awaitingAck) && decide (s = b.pendingSeq)

/-- RX_ACK_MATCH(s) (R206). -/
def Block.rxAckMatch (s : Word) (b : Block) : Block :=
  (({ b with
      txState := .idle, pendingValid := false, timerRem := 0
      nextSeq := b.nextSeq + 1 }).cnt .matchAck).pushEvent .ackReceived 0 s

/-- RX_ACK_STALE(s) (R207). -/
def Block.rxAckStale (s : Word) (b : Block) : Block :=
  (b.cnt .staleAck).pushEvent .staleAck (b.txState.code.setWidth 8) s

/-- RX_ACK(s) (R206, R207). -/
def Block.rxAck (s : Word) (b : Block) : Block :=
  if b.ackMatches s then b.rxAckMatch s else b.rxAckStale s

/-! ### The retransmission timer -/

/-- The bytes of RETX (R41), at most 13 + `P_MAX_PAYLOAD` of them. -/
def Block.retxBytes (b : Block) : Frame :=
  match b.retx with
  | .held f => f
  | .unspecified n => (Config.freeFrame n).take (13 + b.par.maxPayload)

/-- The retry count that RETRANSMIT reports, saturated at 255 (R217). -/
def saturate8 (n : Half) : Byte := if 255 < n.toNat then 255 else n.setWidth 8

/-- EXPIRE_RETRANSMIT (R217). -/
def Block.expireRetransmit (b : Block) : Block :=
  (({ b.emitFrame b.retxBytes with
      retriesUsed := b.retriesUsed + 1
      timerRem := b.timeout }).cnt .retx).pushEvent .retransmit (saturate8 (b.retriesUsed + 1)) b.pendingSeq

/-- EXPIRE_FAIL (R218). -/
def Block.expireFail (b : Block) : Block :=
  (b.failWith .retryExhausted).pushEvent .transferFailed 1 b.pendingSeq

/-- Is there a retry left (R217)? MAX_RETRIES is read now. -/
def Block.retryLeft (b : Block) : Bool := decide (b.retriesUsed.toNat < b.maxRetries.toNat)

/-- EXPIRE (R217, R218). -/
def Block.expire (b : Block) : Block := if b.retryLeft then b.expireRetransmit else b.expireFail

/-- `if TIMER_REM > 0 then TIMER_REM <- TIMER_REM - 1` (R215). -/
def Block.countDown (b : Block) : Block :=
  { b with timerRem := if b.timerRem = 0 then 0 else b.timerRem - 1 }

/-- Does EXPIRE run, once TIMER_REM has counted down (R215)? -/
def Block.expiring (b : Block) : Bool := decide (b.txState = .awaitingAck) && decide (b.timerRem = 0)

/-- The retransmission timer's part of TICK: it acts only in AWAITING_ACK (R215). -/
def Block.runTimer (b : Block) : Block :=
  if b.txState = .awaitingAck then
    if b.countDown.expiring then b.countDown.expire else b.countDown
  else b

/-- `NOW <- (NOW + 1) mod 2^32` (R215). -/
def Block.advanceNow (b : Block) : Block := { b with now := b.now + 1 }

/-- TICK on one block (R215). -/
def Block.tick (b : Block) : Block := b.advanceNow.runTimer

/-! ### The meanings -/

/-- TX_START: its reserved bits, its rule, its record (R99, R123, R202). -/
def execTxStart (blk : BlockId) (rsvd : BitVec 24) (s : State) : StepOutcome :=
  .next (s.onBlock blk (Block.issue 0x01 rsvd Block.txStart))

/-- TX_SEND (R99, R123, R204). -/
def execTxSend (blk : BlockId) (len : Half) (rsvd : Byte) (s : State) : StepOutcome :=
  .next (s.onBlock blk (Block.issue 0x02 rsvd (Block.txSend len s.fill)))

/-- TX_END (R99, R123, R208). -/
def execTxEnd (blk : BlockId) (rsvd : BitVec 24) (s : State) : StepOutcome :=
  .next (s.onBlock blk (Block.issue 0x03 rsvd Block.txEnd))

/-- TX_CANCEL (R99, R123, R210). -/
def execTxCancel (blk : BlockId) (rsvd : BitVec 24) (s : State) : StepOutcome :=
  .next (s.onBlock blk (Block.issue 0x04 rsvd Block.txCancel))

/-- The row of a valid ACK: rule `run` for its sequence where `cond` holds (R160, R206, R207). -/
def onAck (blk : BlockId) (f : Frame) (cond : Word → Block → Bool) (run : Word → Block → Block) (s : State) :
    StepOutcome :=
  match (s.block blk).verdict f with
  | .valid .ack seq _ _ => if cond seq (s.block blk) then .next (s.onBlock blk (run seq)) else .refused .notThisCase
  | .valid .data _ _ _ => .refused .notThisCase
  | .decodeFail _ => .refused .notThisCase
  | .checksumFail _ => .refused .notThisCase

/-- RX_ACK, the matching case (R206). -/
def execRxAckMatch (blk : BlockId) (f : Frame) (s : State) : StepOutcome :=
  onAck blk f Block.ackMatches Block.rxAckMatch s

/-- RX_ACK, the stale case (R207). -/
def execRxAckStale (blk : BlockId) (f : Frame) (s : State) : StepOutcome :=
  onAck blk f (fun seq b => !b.ackMatches seq) Block.rxAckStale s

/-- Is a frame in flight already due, in either direction (R184)? -/
def Link.anyDue (l : Link) : Bool := (l.flightAB ++ l.flightBA).any fun e => e.2 == 0

/-- May time pass (R189 item 3, R280)? Under SIMULATOR no TICK runs ahead of a frame already due. -/
def State.timeMayPass (s : State) : Bool := s.link.model == .any || !s.link.anyDue

/-- TICK (R215). R280: under SIMULATOR it does not run ahead of a frame already due. -/
def execTick (blk : BlockId) (s : State) : StepOutcome :=
  if s.timeMayPass then .next (s.onBlock blk Block.tick) else .refused .notEnabled

/-- The row of one EXPIRE: rule `run` where EXPIRE runs and `cond` holds (R215, R217, R218). -/
def onExpire (blk : BlockId) (cond : Block → Bool) (run : Block → Block) (s : State) : StepOutcome :=
  if !s.timeMayPass then .refused .notEnabled
  else if (s.block blk).expiring && cond (s.block blk) then .next (s.onBlock blk run)
  else .refused .notThisCase

/-- EXPIRE, the retransmit case (R217). -/
def execExpireRetransmit (blk : BlockId) (s : State) : StepOutcome :=
  onExpire blk Block.retryLeft Block.expireRetransmit s

/-- EXPIRE, the fail case (R218). -/
def execExpireFail (blk : BlockId) (s : State) : StepOutcome :=
  onExpire blk (fun b => !b.retryLeft) Block.expireFail s

end Sys2Proof.Machine
end

