-- ==== Sys2Proof/Machine/LinkInput.lean ====
section
/-!
DEFINITION. LinkInput.lean: the link input (41_codec.md): LINK_RX and the discard path RX_INVALID.
-/

namespace Sys2Proof.Machine

/-- RX_INVALID_STRUCT(sub) (R161). -/
def Block.rxInvalidStruct (sub : DecodeSub) (b : Block) : Block :=
  (b.cnt .decodeFail).pushEvent .decodeFail sub.code 0

/-- RX_INVALID_CSUM(sc) (R161). -/
def Block.rxInvalidCsum (sc : Word) (b : Block) : Block := (b.cnt .csumFail).pushEvent .checksumFail 0 sc

/-- What LINK_RX resolves into for a verdict (R160). -/
def Block.resolve (v : Verdict) (b : Block) : Block :=
  match v with
  | .decodeFail sub => b.rxInvalidStruct sub
  | .checksumFail sc => b.rxInvalidCsum sc
  | .valid .ack seq _ _ => b.rxAck seq
  | .valid .data seq p _ => b.rxData seq p

/-- LINK_RX(f) (R160). -/
def Block.linkRx (f : Frame) (b : Block) : Block := (b.cnt .rxFrames).resolve (b.verdict f)

/-! ### The meanings -/

/-- LINK_RX (R160). -/
def execLinkRx (blk : BlockId) (f : Frame) (s : State) : StepOutcome := .next (s.onBlock blk (Block.linkRx f))

/-- RX_INVALID (R161), for a frame that `decode` rejects. -/
def execRxInvalid (blk : BlockId) (f : Frame) (s : State) : StepOutcome :=
  match (s.block blk).verdict f with
  | .decodeFail sub => .next (s.onBlock blk (Block.rxInvalidStruct sub))
  | .checksumFail sc => .next (s.onBlock blk (Block.rxInvalidCsum sc))
  | .valid _ _ _ _ => .refused .notThisCase

end Sys2Proof.Machine
end

