-- ==== Sys2Proof/Machine/HostBus.lean ====
section
/-!
DEFINITION. HostBus.lean: the host interface (40_host_interface.md): the register map (10_state.md rule R23),
HOST_READ, HOST_WRITE, COMMAND and the housekeeping commands; and RESET (70_reset_and_hazards.md rule R300).
-/

namespace Sys2Proof.Machine

/-! ### The register map -/

/-- The named registers (R23). -/
inductive Reg where
  | id
  | param
  | cmd
  | cmdStatus
  | irqStatus
  | irqEnable
  | now
  | version
  | txStatus
  | txNextSeq
  | txPendingSeq
  | txPendingLen
  | txRetriesUsed
  | txTimerRem
  | txTimeout
  | txMaxRetries
  | rxStatus
  | rxExpSeq
  | rxDeliverSeq
  | rxDeliverLen
  | evqStatus
  | evqHead
  | evqHeadSeq
  | counter (c : Counter)
deriving DecidableEq, Repr

/-- The offset of a counter (R48). -/
def Counter.offset : Counter → Offset
  | .txData => 0x060
  | .retx => 0x064
  | .txAck => 0x068
  | .rxFrames => 0x06C
  | .decodeFail => 0x070
  | .csumFail => 0x074
  | .rxAccept => 0x078
  | .rxDup => 0x07C
  | .rxFuture => 0x080
  | .rxSinkBusy => 0x084
  | .staleAck => 0x088
  | .evqOverflow => 0x08C
  | .txqDrop => 0x090
  | .matchAck => 0x094

/-- The offset of a register (R23). -/
def Reg.offset : Reg → Offset
  | .id => 0x000
  | .param => 0x004
  | .cmd => 0x008
  | .cmdStatus => 0x00C
  | .irqStatus => 0x010
  | .irqEnable => 0x014
  | .now => 0x018
  | .version => 0x01C
  | .txStatus => 0x020
  | .txNextSeq => 0x024
  | .txPendingSeq => 0x028
  | .txPendingLen => 0x02C
  | .txRetriesUsed => 0x030
  | .txTimerRem => 0x034
  | .txTimeout => 0x038
  | .txMaxRetries => 0x03C
  | .rxStatus => 0x040
  | .rxExpSeq => 0x044
  | .rxDeliverSeq => 0x048
  | .rxDeliverLen => 0x04C
  | .evqStatus => 0x050
  | .evqHead => 0x054
  | .evqHeadSeq => 0x058
  | .counter c => c.offset

/-- The register at an offset, if R23 lists one there. Every other offset below 0x1000 is RAZ/WI. -/
def regAt (off : Offset) : Option Reg :=
  match off.toNat with
  | 0x000 => some .id
  | 0x004 => some .param
  | 0x008 => some .cmd
  | 0x00C => some .cmdStatus
  | 0x010 => some .irqStatus
  | 0x014 => some .irqEnable
  | 0x018 => some .now
  | 0x01C => some .version
  | 0x020 => some .txStatus
  | 0x024 => some .txNextSeq
  | 0x028 => some .txPendingSeq
  | 0x02C => some .txPendingLen
  | 0x030 => some .txRetriesUsed
  | 0x034 => some .txTimerRem
  | 0x038 => some .txTimeout
  | 0x03C => some .txMaxRetries
  | 0x040 => some .rxStatus
  | 0x044 => some .rxExpSeq
  | 0x048 => some .rxDeliverSeq
  | 0x04C => some .rxDeliverLen
  | 0x050 => some .evqStatus
  | 0x054 => some .evqHead
  | 0x058 => some .evqHeadSeq
  | 0x060 => some (.counter .txData)
  | 0x064 => some (.counter .retx)
  | 0x068 => some (.counter .txAck)
  | 0x06C => some (.counter .rxFrames)
  | 0x070 => some (.counter .decodeFail)
  | 0x074 => some (.counter .csumFail)
  | 0x078 => some (.counter .rxAccept)
  | 0x07C => some (.counter .rxDup)
  | 0x080 => some (.counter .rxFuture)
  | 0x084 => some (.counter .rxSinkBusy)
  | 0x088 => some (.counter .staleAck)
  | 0x08C => some (.counter .evqOverflow)
  | 0x090 => some (.counter .txqDrop)
  | 0x094 => some (.counter .matchAck)
  | _ => none

/-- The 32-bit value a register reads as (R24 to R48). CMD reads 0 (R27). -/
def Block.readReg (b : Block) : Reg → Word
  | .id => idWord
  | .param => paramWord b.par
  | .cmd => 0
  | .cmdStatus => b.cmdStatus
  | .irqStatus => b.irqStatus.setWidth 32
  | .irqEnable => b.irqEnable.setWidth 32
  | .now => b.now
  | .version => versionWord
  | .txStatus => b.txStatus
  | .txNextSeq => b.wireSeq
  | .txPendingSeq => b.pendingSeq
  | .txPendingLen => b.pendingLen.setWidth 32
  | .txRetriesUsed => b.retriesUsed.setWidth 32
  | .txTimerRem => b.timerRem
  | .txTimeout => b.timeout
  | .txMaxRetries => b.maxRetries.setWidth 32
  | .rxStatus => b.rxStatus
  | .rxExpSeq => b.expSeq.setWidth 32
  | .rxDeliverSeq => b.deliverSeq
  | .rxDeliverLen => b.deliverLen.setWidth 32
  | .evqStatus => b.evqStatus
  | .evqHead => b.evqHead
  | .evqHeadSeq => b.evqHeadSeq
  | .counter c => b.counters.get c

/-- The spaces of the 14-bit offset range (R23, R70). `j` is the byte index within a buffer window. -/
inductive Region where
  | registers
  | txWindow (j : Nat)
  | rxWindow (j : Nat)
  | hole
deriving DecidableEq, Repr

/-- The region of an offset (R23): registers below 0x1000, the two windows, and RAZ/WI from 0x3000 on. -/
def regionOf (off : Offset) : Region :=
  if off.toNat < 0x1000 then .registers
  else if off.toNat < 0x2000 then .txWindow (off.toNat - 0x1000)
  else if off.toNat < 0x3000 then .rxWindow (off.toNat - 0x2000)
  else .hole

/-! ### HOST_READ -/

/-- The word that a legal read of `off` returns (R120). -/
def Block.readWord (off : Offset) (fill : Nat → Byte) (b : Block) : Word :=
  match regionOf off with
  | .registers =>
    match regAt off with
    | some r => b.readReg r
    | none => 0
  | .txWindow j => Memory.windowWord b.par.maxPayload fill b.txbuf j
  | .rxWindow j => Memory.windowWord b.par.maxPayload fill b.rxbuf j
  | .hole => 0

/-- HOST_READ(off), as an access of `width` bytes (R120, R121). -/
def Block.hostRead (width : Byte) (off : Offset) (fill : Nat → Byte) (b : Block) : Block :=
  match hostFaultOf width off with
  | some _ => { b.raiseHostFault with readData := unspecifiedWord fill }
  | none => { b with readData := b.readWord off fill }

/-! ### The housekeeping commands -/

/-- NOP's own rule (R130). -/
def Block.nop (b : Block) : Except CmdError Block := .ok b

/-- CLR_COUNTERS' own rule (R132). -/
def Block.clrCounters (b : Block) : Except CmdError Block := .ok { b with counters := Counters.zero }

/-- EVQ_POP's own rule (R134). -/
def Block.evqPop (b : Block) : Except CmdError Block :=
  match b.evq with
  | [] => .error .empty
  | _ :: rest => .ok { b with evq := rest }

/-- SOFT_RESET's own rule (R136). -/
def Block.softReset (n : Nat) (b : Block) : Except CmdError Block := .ok (b.resetAssign n)

/-! ### HOST_WRITE -/

/-- COMMAND(w) (R123): `fill` and `n` are the free values of this step. -/
def Block.command (w : Word) (fill : Nat → Byte) (n : Nat) (b : Block) : Block :=
  match (opcodeOf w).toNat with
  | 0x00 => b.issue (opcodeOf w) (reservedOf w) Block.nop
  | 0x01 => b.issue (opcodeOf w) (reservedOf w) Block.txStart
  | 0x02 => b.issue (opcodeOf w) (sendReservedOf w) (Block.txSend (lenOf w) fill)
  | 0x03 => b.issue (opcodeOf w) (reservedOf w) Block.txEnd
  | 0x04 => b.issue (opcodeOf w) (reservedOf w) Block.txCancel
  | 0x05 => b.issue (opcodeOf w) (reservedOf w) Block.rxReset
  | 0x06 => b.issue (opcodeOf w) (reservedOf w) Block.rxRelease
  | 0x07 => b.issue (opcodeOf w) (reservedOf w) Block.evqPop
  | 0x08 => b.issue (opcodeOf w) (reservedOf w) Block.clrCounters
  | 0x09 => b.issue (opcodeOf w) (reservedOf w) (Block.softReset n)
  | _ => b.record (opcodeOf w) (some .illegalOpcode)

/-- A write to a register (R122, R23): CMD, IRQ_STATUS (W1C) and the RW registers; the others ignore it. -/
def Block.writeReg (r : Reg) (v : Word) (fill : Nat → Byte) (n : Nat) (b : Block) : Block :=
  match r with
  | .cmd => b.command v fill n
  | .irqStatus => { b with irqStatus := irqCleared v b.irqStatus }
  | .irqEnable => { b with irqEnable := v.extractLsb' 0 5 }
  | .txTimeout => { b with timeout := v }
  | .txMaxRetries => { b with maxRetries := v.extractLsb' 0 16 }
  | .id => b
  | .param => b
  | .cmdStatus => b
  | .now => b
  | .version => b
  | .txStatus => b
  | .txNextSeq => b
  | .txPendingSeq => b
  | .txPendingLen => b
  | .txRetriesUsed => b
  | .txTimerRem => b
  | .rxStatus => b
  | .rxExpSeq => b
  | .rxDeliverSeq => b
  | .rxDeliverLen => b
  | .evqStatus => b
  | .evqHead => b
  | .evqHeadSeq => b
  | .counter _ => b

/-- A legal write of `v` at `off` (R122). -/
def Block.writeWord (off : Offset) (v : Word) (fill : Nat → Byte) (n : Nat) (b : Block) : Block :=
  match regionOf off with
  | .registers =>
    match regAt off with
    | some r => b.writeReg r v fill n
    | none => b
  | .txWindow j => { b with txbuf := Memory.storeBelow b.par.maxPayload j (lanesOf v) b.txbuf }
  | .rxWindow _ => b
  | .hole => b

/-- HOST_WRITE(off, v), as an access of `width` bytes (R121, R122). -/
def Block.hostWrite (width : Byte) (off : Offset) (v : Word) (fill : Nat → Byte) (n : Nat) (b : Block) : Block :=
  match hostFaultOf width off with
  | some _ => b.raiseHostFault
  | none => b.writeWord off v fill n

/-! ### The meanings -/

/-- HOST_READ (R120). -/
def execHostRead (blk : BlockId) (width : Byte) (off : Offset) (s : State) : StepOutcome :=
  .next (s.onBlock blk (Block.hostRead width off s.fill))

/-- HOST_WRITE (R122). -/
def execHostWrite (blk : BlockId) (width : Byte) (off : Offset) (data : Word) (s : State) : StepOutcome :=
  .next (s.onBlock blk (Block.hostWrite width off data s.fill s.draws))

/-- NOP (R99, R123, R130). -/
def execNop (blk : BlockId) (rsvd : BitVec 24) (s : State) : StepOutcome :=
  .next (s.onBlock blk (Block.issue 0x00 rsvd Block.nop))

/-- EVQ_POP (R99, R123, R134). -/
def execEvqPop (blk : BlockId) (rsvd : BitVec 24) (s : State) : StepOutcome :=
  .next (s.onBlock blk (Block.issue 0x07 rsvd Block.evqPop))

/-- CLR_COUNTERS (R99, R123, R132). -/
def execClrCounters (blk : BlockId) (rsvd : BitVec 24) (s : State) : StepOutcome :=
  .next (s.onBlock blk (Block.issue 0x08 rsvd Block.clrCounters))

/-- SOFT_RESET (R99, R123, R136). -/
def execSoftReset (blk : BlockId) (rsvd : BitVec 24) (s : State) : StepOutcome :=
  .next (s.onBlock blk (Block.issue 0x09 rsvd (Block.softReset s.draws)))

/-- A command word with an illegal opcode (R99 step 1, R124): ILLEGAL_OPCODE, whatever the other bits hold.
Well-formedness says that the opcode is illegal. -/
def execIllegalOpcode (blk : BlockId) (w : Word) (s : State) : StepOutcome :=
  .next (s.onBlock blk fun b => b.record (opcodeOf w) (some .illegalOpcode))

/-- RESET (R300). The link agent is not changed (R302). -/
def execReset (blk : BlockId) (s : State) : StepOutcome := .next (s.onBlock blk (Block.resetAssign s.draws))

end Sys2Proof.Machine
end

