-- ==== Sys2Proof/Machine/LinkAgent.lean ====
section
/-!
DEFINITION. LinkAgent.lean: the link agent and the shared tick (42_link.md): LINK_TAKE, LINK_ADMIT, LINK_DELIVER
and SYS_TICK.
-/

namespace Sys2Proof.Machine

/-- `FLIGHT_d` (R181). -/
def Link.flight (l : Link) : Direction → List (Frame × Nat)
  | .aToB => l.flightAB
  | .bToA => l.flightBA

/-- The link agent with `FLIGHT_d` replaced. -/
def Link.setFlight (l : Link) (d : Direction) (fl : List (Frame × Nat)) : Link :=
  match d with
  | .aToB => { l with flightAB := fl }
  | .bToA => { l with flightBA := fl }

/-- The impairment profile of a direction (R181). -/
def Link.profile (l : Link) : Direction → Profile
  | .aToB => l.profileAB
  | .bToA => l.profileBA

/-! ### The impairment decision -/

/-- What a wish comes to under a probability (R183): p = 0 never happens, p = 1 always, else either may. -/
def chanceAllows (p : Chance) (wish : Bool) : Bool :=
  match p with
  | .never => false
  | .sometimes => wish
  | .always => true

/-- A value within `lo .. hi`: `n` itself where it lies there. -/
def clamp (lo hi n : Nat) : Nat := max lo (min hi n)

/-- The delay of a choice (R182 step 2; under ANY, R185, any delay). -/
def admittedDelay (model : LinkModel) (pr : Profile) (c : LinkChoice) : Nat :=
  match model with
  | .simulator => clamp pr.delayMin pr.delayMax c.delay
  | .any => c.delay

/-- The mask of a corruption, 0x01 to 0xFF (R182 step 3). -/
def xorMask (c : LinkChoice) : Byte := if c.mask = 0 then 1 else c.mask

/-- The corrupted frame (R182 step 3): byte `i`, 11 ≤ i ≤ |f|−1, is XORed with the mask. -/
def corruptedFrame (c : LinkChoice) (f : Frame) : Frame :=
  f.modify (clamp 11 (f.length - 1) c.index) (· ^^^ xorMask c)

/-- Does this choice corrupt `f` (R182 step 3, R183)? Only a frame that has a byte 11 can be corrupted. -/
def corrupts (pr : Profile) (c : LinkChoice) (f : Frame) : Bool :=
  decide (11 < f.length) && chanceAllows pr.corruption c.corrupt

/-- The frame after step 3 (R182). -/
def impairedFrame (pr : Profile) (c : LinkChoice) (f : Frame) : Frame :=
  if corrupts pr c f then corruptedFrame c f else f

/-- The entries that go into flight for an admitted frame: one under SIMULATOR (R182, R184); under ANY (R185) the
frame may be changed, truncated or extended at will, and further copies may go with it. -/
def admittedEntries (model : LinkModel) (pr : Profile) (c : LinkChoice) (f : Frame) : List (Frame × Nat) :=
  match model with
  | .simulator => [(impairedFrame pr c f, admittedDelay .simulator pr c)]
  | .any => (c.replace.getD (impairedFrame pr c f), admittedDelay .any pr c) :: c.extra

/-- What the link agent records of an admission (R187). -/
def admittedRecords (d : Direction) (pr : Profile) (c : LinkChoice) (f : Frame) : List LinkRecord :=
  if chanceAllows pr.loss c.drop then [.dropped d f]
  else if corrupts pr c f then [.corrupted d f]
  else []

/-- LINK_ADMIT(d, f) under the choice `c` (R182), with the record it leaves (R187). -/
def Link.admitFrame (d : Direction) (f : Frame) (c : LinkChoice) (l : Link) : Link :=
  { l.setFlight d
      (if chanceAllows (l.profile d).loss c.drop then l.flight d
       else l.flight d ++ admittedEntries l.model (l.profile d) c f) with
    trace := l.trace ++ admittedRecords d (l.profile d) c f }

/-- LINK_ADMIT(d, f) (R182): the next resolution that stands in `choices`, else a free choice (U13). -/
def State.admitFrame (d : Direction) (f : Frame) (s : State) : State :=
  match s.link.choices with
  | [] => { s with link := s.link.admitFrame d f (Config.freeChoice s.draws) }
  | c :: rest => { s with link := { s.link with choices := rest }.admitFrame d f c }

/-! ### Delivery -/

/-- The entry of `FLIGHT_d` that LINK_DELIVER(d, f) takes (R184): one that is due; under ANY (R185) at any time. -/
def Link.deliverable (model : LinkModel) (f : Frame) (e : Frame × Nat) : Bool :=
  e.1 == f && (model == .any || e.2 == 0)

/-! ### The shared tick -/

/-- Item 2 of SYS_TICK: every frame in flight comes one tick nearer (R189). -/
def ageFlight (fl : List (Frame × Nat)) : List (Frame × Nat) := fl.map fun e => (e.1, e.2 - 1)

/-- Is SYS_TICK enabled (R189 items 3 and 4)? -/
def State.sysTickEnabled (s : State) : Bool :=
  s.link.model == .any || (!s.link.anyDue && s.blockA.txq.isEmpty && s.blockB.txq.isEmpty)

/-- SYS_TICK: TICK on every block, then the ageing of every frame in flight (R189). -/
def State.sysTick (s : State) : State :=
  { s with
    blockA := s.blockA.tick
    blockB := s.blockB.tick
    link := { s.link with flightAB := ageFlight s.link.flightAB, flightBA := ageFlight s.link.flightBA } }

/-! ### The meanings -/

/-- LINK_TAKE (R180): the head of TXQ goes to the link agent, which admits it. -/
def execLinkTake (blk : BlockId) (s : State) : StepOutcome :=
  match (s.block blk).txq with
  | [] => .refused .notEnabled
  | f :: rest => .next ((s.onBlock blk fun b => { b with txq := rest }).admitFrame blk.outbound f)

/-- LINK_ADMIT (R182). -/
def execLinkAdmit (d : Direction) (f : Frame) (s : State) : StepOutcome := .next (s.admitFrame d f)

/-- LINK_DELIVER (R184): the frame leaves `FLIGHT_d` and arrives at the receiving block. -/
def execLinkDeliver (d : Direction) (f : Frame) (s : State) : StepOutcome :=
  if (s.link.flight d).any (Link.deliverable s.link.model f) then
    .next ({ s with
      link := s.link.setFlight d ((s.link.flight d).eraseP (Link.deliverable s.link.model f)) }.onBlock d.dst
        (Block.linkRx f))
  else .refused .notEnabled

/-- SYS_TICK (R189). -/
def execSysTick (s : State) : StepOutcome :=
  if s.sysTickEnabled then .next s.sysTick else .refused .notEnabled

end Sys2Proof.Machine
end

