-- ==== Sys2Proof/Machine/Dispatch.lean ====
section
/-!
DEFINITION. Dispatch.lean: one arm for each constructor of Instr.
-/

namespace Sys2Proof.Machine

def exec (i : Instr) (s : State) : Host.Outcome State Fault Refusal :=
  match i with
  | .hostRead blk width off => Sys2Proof.Machine.execHostRead blk width off s
  | .hostWrite blk width off data => Sys2Proof.Machine.execHostWrite blk width off data s
  | .nop blk rsvd => Sys2Proof.Machine.execNop blk rsvd s
  | .txStart blk rsvd => Sys2Proof.Machine.execTxStart blk rsvd s
  | .txSend blk len rsvd => Sys2Proof.Machine.execTxSend blk len rsvd s
  | .txEnd blk rsvd => Sys2Proof.Machine.execTxEnd blk rsvd s
  | .txCancel blk rsvd => Sys2Proof.Machine.execTxCancel blk rsvd s
  | .rxReset blk rsvd => Sys2Proof.Machine.execRxReset blk rsvd s
  | .rxRelease blk rsvd => Sys2Proof.Machine.execRxRelease blk rsvd s
  | .evqPop blk rsvd => Sys2Proof.Machine.execEvqPop blk rsvd s
  | .clrCounters blk rsvd => Sys2Proof.Machine.execClrCounters blk rsvd s
  | .softReset blk rsvd => Sys2Proof.Machine.execSoftReset blk rsvd s
  | .illegalOpcode blk word => Sys2Proof.Machine.execIllegalOpcode blk word s
  | .linkRx blk f => Sys2Proof.Machine.execLinkRx blk f s
  | .rxInvalid blk f => Sys2Proof.Machine.execRxInvalid blk f s
  | .rxAckMatch blk f => Sys2Proof.Machine.execRxAckMatch blk f s
  | .rxAckStale blk f => Sys2Proof.Machine.execRxAckStale blk f s
  | .rxData blk f => Sys2Proof.Machine.execRxData blk f s
  | .rxAccept blk f => Sys2Proof.Machine.execRxAccept blk f s
  | .rxSinkBusy blk f => Sys2Proof.Machine.execRxSinkBusy blk f s
  | .rxDuplicate blk f => Sys2Proof.Machine.execRxDuplicate blk f s
  | .rxFuture blk f => Sys2Proof.Machine.execRxFuture blk f s
  | .linkTake blk => Sys2Proof.Machine.execLinkTake blk s
  | .tick blk => Sys2Proof.Machine.execTick blk s
  | .expireRetransmit blk => Sys2Proof.Machine.execExpireRetransmit blk s
  | .expireFail blk => Sys2Proof.Machine.execExpireFail blk s
  | .reset blk => Sys2Proof.Machine.execReset blk s
  | .linkAdmit d f => Sys2Proof.Machine.execLinkAdmit d f s
  | .linkDeliver d f => Sys2Proof.Machine.execLinkDeliver d f s
  | .sysTick => Sys2Proof.Machine.execSysTick s

end Sys2Proof.Machine
end

