-- ==== Sys2Proof/Machine/Step.lean ====
section
/-!
DEFINITION. Step.lean: one step of the reference system: the next operation the agents offer, if there is one.
-/

namespace Sys2Proof.Machine

/-- The state in which an offered operation runs: its record taken, and one draw of free values numbered. -/
def State.afterFetch (rest : List OpRecord) (s : State) : State := { s with offered := rest, draws := s.draws + 1 }

/-- One atomic operation (R6, R78): the oldest record the agents offer is decoded and run. With nothing offered
the system idles: only an operation changes its state. -/
def step (s : State) : Host.Outcome State Fault Refusal :=
  match s.offered with
  | [] => .next s
  | r :: rest =>
    match decode r with
    | .error why => .refused (.undecodable why)
    | .ok i => if i.wellFormed then exec i (s.afterFetch rest) else .refused .illFormed

/-- `s` with the operation whose table bits are `w` offered next. -/
def State.withFetchWord (s : State) (nbits w : Nat) : State :=
  { s with offered := tableRecord nbits w :: s.offered }

end Sys2Proof.Machine
end

