-- ==== Sys2Proof/Machine/Script.lean ====
section
/-!
DEFINITION. Script.lean: the host program notation of 30_encoding.md rule R102, line by line, as the operations
it stands for. `drop f` and `corrupt f at i ^= m` follow a `take` and say what the link agent chooses for the
frame taken; LINK_TAKE and its LINK_ADMIT are one operation (R180), so here they are the `take` line's fate.
-/

namespace Sys2Proof.Machine

/-- The commands without an operand (R93). -/
inductive PlainCommand where
  | nop
  | txStart
  | txEnd
  | txCancel
  | rxReset
  | rxRelease
  | evqPop
  | clrCounters
  | softReset
deriving DecidableEq, Repr

/-- The OPCODE of a command without an operand (R93). -/
def PlainCommand.opcode : PlainCommand → Byte
  | .nop => 0x00
  | .txStart => 0x01
  | .txEnd => 0x03
  | .txCancel => 0x04
  | .rxReset => 0x05
  | .rxRelease => 0x06
  | .evqPop => 0x07
  | .clrCounters => 0x08
  | .softReset => 0x09

/-- What a script says becomes of a frame taken (R102). -/
inductive Fate where
  /-- Admitted unchanged, with this delay. -/
  | pass (delay : Nat)
  /-- `drop f`. -/
  | drop
  /-- `corrupt f at i ^= m`. -/
  | corrupt (i : Nat) (m : Byte)
deriving DecidableEq, Repr

/-- The choice of LINK_ADMIT that a fate stands for (R182). DESIGN CHOICE (log entry 17): R102 gives a line no delay;
a frame taken with a `corrupt` line goes in flight with delay 0, as P4 of 95_test_vectors.md has it. A dropped frame
goes nowhere, so its delay says nothing. -/
def Fate.choice : Fate → LinkChoice
  | .pass delay =>
    { drop := false, delay := delay, corrupt := false, index := 0, mask := 0, replace := none, extra := [] }
  | .drop => { drop := true, delay := 0, corrupt := false, index := 0, mask := 0, replace := none, extra := [] }
  | .corrupt i m =>
    { drop := false, delay := 0, corrupt := true, index := i, mask := m, replace := none, extra := [] }

/-- One line (R102). -/
inductive Line where
  /-- `rd NAME` -/
  | rd (blk : BlockId) (off : Offset)
  /-- `wr NAME, v` and `wr TXBUF+4k, v` -/
  | wr (blk : BlockId) (off : Offset) (v : Word)
  /-- `cmd MNEMONIC` -/
  | cmd (blk : BlockId) (c : PlainCommand)
  /-- `cmd TX_SEND n` -/
  | cmdTxSend (blk : BlockId) (n : Half)
  /-- `tick A ×n` -/
  | tick (blk : BlockId) (n : Nat)
  /-- `systick ×n` -/
  | systick (n : Nat)
  /-- `take A`, with the `drop` or `corrupt` line that may follow it -/
  | take (blk : BlockId) (fate : Fate)
  /-- `deliver B <- f` -/
  | deliver (blk : BlockId) (f : Frame)
  /-- `load A, "bytes"` -/
  | load (blk : BlockId) (bytes : Frame)
  /-- `send A, "bytes"` -/
  | send (blk : BlockId) (bytes : Frame)
  /-- `ack_irq A, m` -/
  | ackIrq (blk : BlockId) (m : Word)
  /-- `pop A` -/
  | pop (blk : BlockId)
  /-- `xfer A -> B` -/
  | xfer (blk : BlockId)
deriving DecidableEq, Repr

/-- Bytes packed into words by R72, the last word padded with 0x00 (R102). -/
def packWords : List Byte → List Word
  | [] => []
  | [b0] => [wordOfLanes b0 0 0 0]
  | [b0, b1] => [wordOfLanes b0 b1 0 0]
  | [b0, b1, b2] => [wordOfLanes b0 b1 b2 0]
  | b0 :: b1 :: b2 :: b3 :: rest => wordOfLanes b0 b1 b2 b3 :: packWords rest

/-- HOST_WRITE of a word (R102). -/
def writeOp (blk : BlockId) (off : Offset) (v : Word) : Instr := .hostWrite blk 4 off v

/-- HOST_WRITE to CMD (R102). -/
def commandOp (blk : BlockId) (w : Word) : Instr := writeOp blk 0x008 w

/-- `load A, "bytes"`: one write for each word, from word `k` on (R102). -/
def loadOps (blk : BlockId) : Nat → List Word → List Instr
  | _, [] => []
  | k, v :: rest => writeOp blk (BitVec.ofNat 14 (0x1000 + 4 * k)) v :: loadOps blk (k + 1) rest

/-- `deliver B <- f`: LINK_RX(f) on B (R102). DESIGN CHOICE (log entry 17): where f is in flight towards B and may be
delivered, the LINK_RX is that of LINK_DELIVER, which takes f out of FLIGHT (R184); else f is the test bench's own
frame, and the line is LINK_RX alone. -/
def deliverOp (l : Link) (blk : BlockId) (f : Frame) : Instr :=
  if (l.flight blk.inbound).any (Link.deliverable l.model f) then .linkDeliver blk.inbound f
  else .linkRx blk f

/-- The operations of a line that is run in state `s` (R102). DEDUCED (log entry 17): the LINK_RX of an `xfer` is that
of LINK_DELIVER too, for the frame that its LINK_TAKE has just put in flight. -/
def Line.ops (s : State) : Line → List Instr
  | .rd blk off => [.hostRead blk 4 off]
  | .wr blk off v => [writeOp blk off v]
  | .cmd blk c => [commandOp blk (commandWord c.opcode 0)]
  | .cmdTxSend blk n => [commandOp blk (sendWord n 0)]
  | .tick blk n => List.replicate n (.tick blk)
  | .systick n => List.replicate n .sysTick
  | .take blk _ => [.linkTake blk]
  | .deliver blk f => [deliverOp s.link blk f]
  | .load blk bytes => loadOps blk 0 (packWords bytes)
  | .send blk bytes =>
    loadOps blk 0 (packWords bytes) ++ [commandOp blk (sendWord (BitVec.ofNat 16 bytes.length) 0)]
  | .ackIrq blk m => [writeOp blk 0x010 m]
  | .pop blk => [commandOp blk (commandWord PlainCommand.evqPop.opcode 0)]
  | .xfer blk => .linkTake blk :: ((s.block blk).txq.take 1).map (Instr.linkDeliver blk.outbound)

/-- The link agent's choices that a line settles (R102, R182). -/
def Line.choices : Line → List LinkChoice
  | .take _ fate => [fate.choice]
  | .xfer _ => [Fate.choice (.pass 0)]
  | .rd _ _ => []
  | .wr _ _ _ => []
  | .cmd _ _ => []
  | .cmdTxSend _ _ => []
  | .tick _ _ => []
  | .systick _ => []
  | .deliver _ _ => []
  | .load _ _ => []
  | .send _ _ => []
  | .ackIrq _ _ => []
  | .pop _ => []

/-- The system with a line offered next. The line before it has run, so `s` is the state the line runs in. -/
def State.offerLine (l : Line) (s : State) : State :=
  { s with
    offered := (l.ops s).map encode ++ s.offered
    link := { s.link with choices := l.choices ++ s.link.choices } }

end Sys2Proof.Machine
end

