-- ==== Sys2Proof/Safety.lean ====
section
/-!
DEFINITION. Safety.lean: the terms that claims about the machine use: the invariants of a block and of the
system, the halves of a block that operations leave alone (R284), and the operations agents really offer.
-/

namespace Sys2Proof.Machine

/-- A buffer of `limit` bytes: in canonical form, with no byte outside the buffer (R40, R42). -/
def Memory.fits (limit : Nat) (m : Memory) : Bool := Memory.wf m && m.all fun c => decide (c.1 < limit)

/-- RETX holds the DATA frame of the pending packet (R41, R204, R217, R220 (c)). -/
def Block.retxHoldsPending (b : Block) : Prop :=
  ∃ payload ts, payload.length = b.pendingLen.toNat ∧ b.retx = .held (frameEncode .data b.pendingSeq payload ts)

/-- The invariant of the sender session. -/
structure Block.SenderInv (b : Block) : Prop where
  /-- R32: PENDING_VALID = 1 exactly when TX_STATE = AWAITING_ACK. -/
  pending : b.pendingValid = true ↔ b.txState = .awaitingAck
  /-- R33: NEXT_SEQ lies in 0 to 2^32. -/
  nextSeq_le : b.nextSeq.toNat ≤ 2 ^ 32
  /-- R206: in AWAITING_ACK, NEXT_SEQ = PENDING_SEQ. -/
  awaiting_seq : b.txState = .awaitingAck → b.nextSeq = zext33 b.pendingSeq
  /-- R37: the timer is armed only in AWAITING_ACK. -/
  disarmed : b.txState ≠ .awaitingAck → b.timerRem = 0
  /-- R200, R210, R218: FAIL_CAUSE says why the sender is in FAILED, and is NONE elsewhere. -/
  cause : b.failCause ≠ .none ↔ b.txState = .failed
  /-- R204: a frame longer than `P_MAX_PAYLOAD` is never sent. -/
  pendingLen_le : b.pendingLen.toNat ≤ b.par.maxPayload
  /-- R220 (c): while a packet is pending, RETX holds its frame. -/
  retx : b.txState = .awaitingAck → b.retxHoldsPending

/-- The invariant of the receiver session. -/
structure Block.ReceiverInv (b : Block) : Prop where
  /-- R44: EXP_SEQ lies in 0 to 2^32. -/
  expSeq_le : b.expSeq.toNat ≤ 2 ^ 32
  /-- R250 (a): |DELIVERED| = EXP_SEQ. -/
  delivered_length : b.delivered.length = b.expSeq.toNat
  /-- R98, R155: no accepted payload is longer than `P_MAX_PAYLOAD`. -/
  delivered_fit : ∀ p ∈ b.delivered, p.length ≤ b.par.maxPayload
  deliverLen_le : b.deliverLen.toNat ≤ b.par.maxPayload

/-- The invariant of buffers and queues. -/
structure Block.StorageInv (b : Block) : Prop where
  /-- R40, R42. -/
  txbuf : Memory.fits b.par.maxPayload b.txbuf = true
  rxbuf : Memory.fits b.par.maxPayload b.rxbuf = true
  /-- R47: at most `P_EVQ_DEPTH` entries. -/
  evq_le : b.evq.length ≤ b.par.evqDepth
  /-- R49: at most `P_TXQ_DEPTH` frames. -/
  txq_le : b.txq.length ≤ b.par.txqDepth
  /-- R98: the framer builds frames of 13 to 13 + `P_MAX_PAYLOAD` bytes. -/
  txq_frames : ∀ f ∈ b.txq, 13 ≤ f.length ∧ f.length ≤ 13 + b.par.maxPayload

/-- The invariant of one block. -/
structure Block.Inv (b : Block) : Prop where
  sender : b.SenderInv
  receiver : b.ReceiverInv
  storage : b.StorageInv

/-- The invariant of the reference system. -/
structure State.Inv (s : State) : Prop where
  blockA : s.blockA.Inv
  blockB : s.blockB.Inv

/-! ### The end of a command -/

/-- A command that completed: CMD_STATUS records its opcode and OK (R124). -/
def Block.withOk (op : Byte) (b : Block) : Block := { b with cmdStatus := (0 : Half) ++ op ++ (0 : Byte) }

/-- A command error: CMD_STATUS records the opcode and the code, and IRQ_STATUS.CMD_ERR is set (R124, R270). -/
def Block.withError (op code : Byte) (b : Block) : Block :=
  { b with
    cmdStatus := (0 : Half) ++ op ++ code
    irqStatus := b.irqStatus ||| 0b10000 }

/-- A legal HOST_READ of `off` returns `v` to the host, and changes nothing else (R75, R120; log entry 3). -/
def HostReads (blk : BlockId) (s : State) (off : Offset) (v : Word) : Prop :=
  exec (.hostRead blk 4 off) s = .next (s.setBlock blk { s.block blk with readData := v })

/-! ### Runs -/

/-- `n` TICKs of one block, one after another (R215). -/
def runTicks (blk : BlockId) : Nat → State → StepOutcome
  | 0, s => .next s
  | n + 1, s =>
    match exec (.tick blk) s with
    | .next t => runTicks blk n t
    | .fault r => .fault r
    | .refused r => .refused r

/-- `LINK_FAIR(d)` (R188), the named premise about the environment, for an infinite run of operations `ops` through
the states `run`: of a frame that the sending block appends to TXQ infinitely often, LINK_DELIVER delivers
infinitely many copies unchanged. -/
def LinkFair (d : Direction) (run : Nat → State) (ops : Nat → Instr) : Prop :=
  ∀ f : Frame,
    (∀ k, ∃ n, k ≤ n ∧ ((run (n + 1)).block d.src).txq = ((run n).block d.src).txq ++ [f]) →
    ∀ k, ∃ n, k ≤ n ∧ ops n = .linkDeliver d f

/-! ### The halves of a block -/

/-- The sender session, with RETX and TXBUF (R284). -/
def Block.sameSender (b b' : Block) : Prop :=
  b'.txState = b.txState ∧ b'.nextSeq = b.nextSeq ∧ b'.pendingValid = b.pendingValid ∧
    b'.pendingSeq = b.pendingSeq ∧ b'.pendingLen = b.pendingLen ∧ b'.retriesUsed = b.retriesUsed ∧
    b'.timerRem = b.timerRem ∧ b'.failCause = b.failCause ∧ b'.retx = b.retx ∧ b'.txbuf = b.txbuf

/-- The receiver session, with RXBUF and DELIVERED (R284). -/
def Block.sameReceiver (b b' : Block) : Prop :=
  b'.expSeq = b.expSeq ∧ b'.deliverValid = b.deliverValid ∧ b'.deliverSeq = b.deliverSeq ∧
    b'.deliverLen = b.deliverLen ∧ b'.rxbuf = b.rxbuf ∧ b'.delivered = b.delivered

/-- `b` with the sender session of `c`, and its RETX and TXBUF (R284). -/
def Block.withSenderOf (c b : Block) : Block :=
  { b with
    txState := c.txState, nextSeq := c.nextSeq, pendingValid := c.pendingValid, pendingSeq := c.pendingSeq
    pendingLen := c.pendingLen, retriesUsed := c.retriesUsed, timerRem := c.timerRem, failCause := c.failCause
    retx := c.retx, txbuf := c.txbuf }

/-- `b` with the receiver session of `c`, and its RXBUF and DELIVERED (R284). -/
def Block.withReceiverOf (c b : Block) : Block :=
  { b with
    expSeq := c.expSeq, deliverValid := c.deliverValid, deliverSeq := c.deliverSeq, deliverLen := c.deliverLen
    rxbuf := c.rxbuf, delivered := c.delivered }

/-- Parameters, configuration registers, time, the model-only marks and the host's latch of read data. -/
def Block.sameConfig (b b' : Block) : Prop :=
  b'.par = b.par ∧ b'.timeout = b.timeout ∧ b'.maxRetries = b.maxRetries ∧ b'.irqEnable = b.irqEnable ∧
    b'.now = b.now ∧ b'.hostFault = b.hostFault ∧ b'.readData = b.readData

/-- Does an operation act on a block (R284)? LINK_ADMIT acts on the link agent alone. -/
def actsOn (blk : BlockId) : Instr → Bool
  | .hostRead k _ _ => k == blk
  | .hostWrite k _ _ _ => k == blk
  | .nop k _ => k == blk
  | .txStart k _ => k == blk
  | .txSend k _ _ => k == blk
  | .txEnd k _ => k == blk
  | .txCancel k _ => k == blk
  | .rxReset k _ => k == blk
  | .rxRelease k _ => k == blk
  | .evqPop k _ => k == blk
  | .clrCounters k _ => k == blk
  | .softReset k _ => k == blk
  | .illegalOpcode k _ => k == blk
  | .linkRx k _ => k == blk
  | .rxInvalid k _ => k == blk
  | .rxAckMatch k _ => k == blk
  | .rxAckStale k _ => k == blk
  | .rxData k _ => k == blk
  | .rxAccept k _ => k == blk
  | .rxSinkBusy k _ => k == blk
  | .rxDuplicate k _ => k == blk
  | .rxFuture k _ => k == blk
  | .linkTake k => k == blk
  | .tick k => k == blk
  | .expireRetransmit k => k == blk
  | .expireFail k => k == blk
  | .reset k => k == blk
  | .linkAdmit _ _ => false
  | .linkDeliver d _ => d.dst == blk
  | .sysTick => true

/-- Does an operation act on the link agent (R4, R302)? -/
def actsOnLink : Instr → Bool
  | .linkTake _ => true
  | .linkAdmit _ _ => true
  | .linkDeliver _ _ => true
  | .sysTick => true
  | .hostRead _ _ _ => false
  | .hostWrite _ _ _ _ => false
  | .nop _ _ => false
  | .txStart _ _ => false
  | .txSend _ _ _ => false
  | .txEnd _ _ => false
  | .txCancel _ _ => false
  | .rxReset _ _ => false
  | .rxRelease _ _ => false
  | .evqPop _ _ => false
  | .clrCounters _ _ => false
  | .softReset _ _ => false
  | .illegalOpcode _ _ => false
  | .linkRx _ _ => false
  | .rxInvalid _ _ => false
  | .rxAckMatch _ _ => false
  | .rxAckStale _ _ => false
  | .rxData _ _ => false
  | .rxAccept _ _ => false
  | .rxSinkBusy _ _ => false
  | .rxDuplicate _ _ => false
  | .rxFuture _ _ => false
  | .tick _ => false
  | .expireRetransmit _ => false
  | .expireFail _ => false
  | .reset _ => false

/-- The operations of the sender half (43_sender.md). -/
def isSenderOp : Instr → Bool
  | .txStart _ _ => true
  | .txSend _ _ _ => true
  | .txEnd _ _ => true
  | .txCancel _ _ => true
  | .rxAckMatch _ _ => true
  | .rxAckStale _ _ => true
  | .tick _ => true
  | .expireRetransmit _ => true
  | .expireFail _ => true
  | .sysTick => true
  | .hostRead _ _ _ => false
  | .hostWrite _ _ _ _ => false
  | .nop _ _ => false
  | .rxReset _ _ => false
  | .rxRelease _ _ => false
  | .evqPop _ _ => false
  | .clrCounters _ _ => false
  | .softReset _ _ => false
  | .illegalOpcode _ _ => false
  | .linkRx _ _ => false
  | .rxInvalid _ _ => false
  | .rxData _ _ => false
  | .rxAccept _ _ => false
  | .rxSinkBusy _ _ => false
  | .rxDuplicate _ _ => false
  | .rxFuture _ _ => false
  | .linkTake _ => false
  | .reset _ => false
  | .linkAdmit _ _ => false
  | .linkDeliver _ _ => false

/-- The operations of the receiver half (44_receiver.md). -/
def isReceiverOp : Instr → Bool
  | .rxReset _ _ => true
  | .rxRelease _ _ => true
  | .rxData _ _ => true
  | .rxAccept _ _ => true
  | .rxSinkBusy _ _ => true
  | .rxDuplicate _ _ => true
  | .rxFuture _ _ => true
  | .hostRead _ _ _ => false
  | .hostWrite _ _ _ _ => false
  | .nop _ _ => false
  | .txStart _ _ => false
  | .txSend _ _ _ => false
  | .txEnd _ _ => false
  | .txCancel _ _ => false
  | .evqPop _ _ => false
  | .clrCounters _ _ => false
  | .softReset _ _ => false
  | .illegalOpcode _ _ => false
  | .linkRx _ _ => false
  | .rxInvalid _ _ => false
  | .rxAckMatch _ _ => false
  | .rxAckStale _ _ => false
  | .linkTake _ => false
  | .tick _ => false
  | .expireRetransmit _ => false
  | .expireFail _ => false
  | .reset _ => false
  | .linkAdmit _ _ => false
  | .linkDeliver _ _ => false
  | .sysTick => false

/-- The operations that agents offer to the reference system (R90, R184, R189). The other rows of the table name
a part of one of these: the case of LINK_RX or of TICK that arises, or LINK_TAKE's admission. DESIGN CHOICE (log entry
21): LINK_RX and TICK count here in their own right, as R90 lists them, under SIMULATOR too. So a frame may arrive that
LINK_ADMIT never put in flight, or arrive again; a claim about the simulator's own deliveries (R184) also excludes
`linkRx`, and one about its shared time (R189) `tick`. -/
def agentOffers : Instr → Bool
  | .hostRead _ _ _ => true
  | .hostWrite _ _ _ _ => true
  | .nop _ _ => true
  | .txStart _ _ => true
  | .txSend _ _ _ => true
  | .txEnd _ _ => true
  | .txCancel _ _ => true
  | .rxReset _ _ => true
  | .rxRelease _ _ => true
  | .evqPop _ _ => true
  | .clrCounters _ _ => true
  | .softReset _ _ => true
  | .illegalOpcode _ _ => true
  | .linkRx _ _ => true
  | .rxInvalid _ _ => false
  | .rxAckMatch _ _ => false
  | .rxAckStale _ _ => false
  | .rxData _ _ => false
  | .rxAccept _ _ => false
  | .rxSinkBusy _ _ => false
  | .rxDuplicate _ _ => false
  | .rxFuture _ _ => false
  | .linkTake _ => true
  | .tick _ => true
  | .expireRetransmit _ => false
  | .expireFail _ => false
  | .reset _ => true
  | .linkAdmit _ _ => false
  | .linkDeliver _ _ => true
  | .sysTick => true

end Sys2Proof.Machine
end

