-- ==== Sys2Proof/Certificates/Slice0/Obligations.lean ====
section
/-!
DEFINITION. Obligations.lean: the statements for the provers. Each says in its docstring which rule it
formalises, or what it is derived from. A free value stands in a statement as the constant of Config that it is:
nothing can be proved of its value.
-/

open Sys2Proof Sys2Proof.Machine

/-! ### Encodings and the step -/

/-- Decoding an encoded well-formed operation gives it back, every operand at every value. The record form is the
model's choice (log entry 1); the command word and the frame in it are laid out by R92 and R95. -/
def Obligations.DecodeOfEncodeIsIdentity : Prop :=
  ∀ i : Instr, i.wellFormed = true → decode (encode i) = .ok i

/-- The other direction: a record that decodes is the encoding of what it decodes to, and that is well-formed, so
each operation has one record (log entry 1). -/
def Obligations.EncodeOfDecodeIsIdentity : Prop :=
  ∀ (r : OpRecord) (i : Instr), decode r = .ok i → encode i = r ∧ i.wellFormed = true

/-- R93: the opcode map. The ten legal word patterns, and the illegal opcodes 0x0A to 0xFF. -/
def Obligations.CommandWordsFollowTheOpcodeMap : Prop :=
  ∀ blk : BlockId,
    decodeCommand blk 0x00000000 = .nop blk 0 ∧
    decodeCommand blk 0x00000001 = .txStart blk 0 ∧
    (∀ w : Word, w.extractLsb' 0 16 = 0x0002 → decodeCommand blk w = .txSend blk (w.extractLsb' 16 16) 0) ∧
    decodeCommand blk 0x00000003 = .txEnd blk 0 ∧
    decodeCommand blk 0x00000004 = .txCancel blk 0 ∧
    decodeCommand blk 0x00000005 = .rxReset blk 0 ∧
    decodeCommand blk 0x00000006 = .rxRelease blk 0 ∧
    decodeCommand blk 0x00000007 = .evqPop blk 0 ∧
    decodeCommand blk 0x00000008 = .clrCounters blk 0 ∧
    decodeCommand blk 0x00000009 = .softReset blk 0 ∧
    (∀ w : Word, 0x0A ≤ (w.extractLsb' 0 8).toNat → decodeCommand blk w = .illegalOpcode blk w)

/-- A few records written out byte by byte, one of each format: HOST_READ of TX_STATUS, HOST_WRITE of 1000 to
TX_TIMEOUT, TX_SEND 5, the ACK(0, 0) of vector V1.5 arriving, TICK, RESET, SYS_TICK. -/
def Obligations.SampleRecordsDecode : Prop :=
  decode [0x01, 0x00, 0x04, 0x20, 0x00] = .ok (.hostRead .A 4 0x020) ∧
  decode [0x02, 0x01, 0x04, 0x38, 0x00, 0xE8, 0x03, 0x00, 0x00] = .ok (.hostWrite .B 4 0x038 1000) ∧
  decode [0x03, 0x00, 0x02, 0x00, 0x05, 0x00] = .ok (.txSend .A 5 0) ∧
  decode [0x10, 0x01, 0, 0, 0, 0, 0x02, 0, 0, 0, 0, 0, 0, 0x91, 0x2D] =
    .ok (.linkRx .B [0, 0, 0, 0, 0x02, 0, 0, 0, 0, 0, 0, 0x91, 0x2D]) ∧
  decode [0x21, 0x00] = .ok (.tick .A) ∧
  decode [0x30, 0x01] = .ok (.reset .B) ∧
  decode [0x42] = .ok .sysTick

/-- A step runs the operation that the oldest offered record spells, at the state in which that record is taken and
one draw of free values is numbered; with nothing offered it changes nothing; a record that spells no operation it
refuses (R6, R7; the queue of records and the draw counter are the model's own, log entries 2 and 4). -/
def Obligations.StepRunsTheOfferedOperation : Prop :=
  (∀ (s : State) (r : OpRecord) (rest : List OpRecord) (i : Instr),
    s.offered = r :: rest → decode r = .ok i → i.wellFormed = true →
      step s = exec i { s with offered := rest, draws := s.draws + 1 }) ∧
  (∀ (s : State) (r : OpRecord) (rest : List OpRecord) (e : DecodeError),
    s.offered = r :: rest → decode r = .error e → step s = .refused (.undecodable e)) ∧
  (∀ s : State, s.offered = [] → step s = .next s)

/-! ### Checksum, framer, verifier -/

/-- R150: `crc16` starts at 0xFFFF and takes each byte by one XOR and eight shifts, with its three sample values. -/
def Obligations.CrcFollowsItsPseudocode : Prop :=
  crc16 [] = 0xFFFF ∧
  (∀ (b : List Byte) (x : Byte),
    crc16 (b ++ [x]) =
      (fun c : Half => if c.getLsbD 15 then (c <<< 1) ^^^ 0x1021 else c <<< 1)^[8]
        (crc16 b ^^^ (x.setWidth 16 <<< 8))) ∧
  crc16 [0x00] = 0xE1F0 ∧
  crc16 [0x31, 0x32, 0x33, 0x34, 0x35, 0x36, 0x37, 0x38, 0x39] = 0x29B1 ∧
  crc16 [0x02, 0, 0, 0, 0, 0, 0] = 0x912D

/-- R152, with R9, R73, R95 and R96: the layout of every frame the framer builds, byte by byte, each field most
significant byte first. -/
def Obligations.FramerLaysOutTheFields : Prop :=
  ∀ (kind : FrameKind) (seq : Word) (payload : Frame) (ts : Word) (f : Frame),
    f = frameEncode kind seq payload ts →
      f.length = 13 + payload.length ∧
      f.take 4 = [ts.extractLsb' 24 8, ts.extractLsb' 16 8, ts.extractLsb' 8 8, ts.extractLsb' 0 8] ∧
      f[4]? = some (match kind with | .data => (0x01 : Byte) | .ack => (0x02 : Byte)) ∧
      (f.drop 5).take 4 =
        [seq.extractLsb' 24 8, seq.extractLsb' 16 8, seq.extractLsb' 8 8, seq.extractLsb' 0 8] ∧
      (f.drop 9).take 2 = [BitVec.ofNat 8 (payload.length / 256), BitVec.ofNat 8 payload.length] ∧
      (f.drop 11).take payload.length = payload ∧
      ∀ crc : Half, crc = crc16 ((f.drop 4).take (7 + payload.length)) →
        f.drop (11 + payload.length) = [crc.extractLsb' 8 8, crc.extractLsb' 0 8]

/-- R156: the round trip of the codec. -/
def Obligations.DecodeOfBuiltFrameIsValid : Prop :=
  ∀ (maxPayload : Nat) (kind : FrameKind) (seq : Word) (payload : Frame) (ts : Word),
    maxPayload ≤ 4096 → payload.length ≤ maxPayload → (kind = .ack → payload = []) →
      frameDecode maxPayload (frameEncode kind seq payload ts) = .valid kind seq payload ts

/-- R155: the checks of the verifier in their order, each result exactly when its check is the first to fail. Every
field of several bytes is read most significant byte first (R9, R73): `num i n` is bytes `i` to `i+n-1` so read. -/
def Obligations.VerifierReportsTheFirstFailingCheck : Prop :=
  ∀ (maxPayload : Nat) (f : Frame) (num : Nat → Nat → Nat) (len : Nat),
    (num = fun i n => ((f.drop i).take n).foldl (fun acc x => 256 * acc + x.toNat) 0) → len = num 9 2 →
      (f.length < 13 → frameDecode maxPayload f = .decodeFail .short) ∧
      (13 ≤ f.length → maxPayload < len → frameDecode maxPayload f = .decodeFail .oversize) ∧
      (13 ≤ f.length → len ≤ maxPayload → f.length ≠ 13 + len → frameDecode maxPayload f = .decodeFail .length) ∧
      (len ≤ maxPayload → f.length = 13 + len → num 4 1 ≠ 0x01 → num 4 1 ≠ 0x02 →
        frameDecode maxPayload f = .decodeFail .badKind) ∧
      (len ≤ maxPayload → f.length = 13 + len → num 4 1 = 0x02 → len ≠ 0 →
        frameDecode maxPayload f = .decodeFail .ackPayload) ∧
      (∀ kind : FrameKind, len ≤ maxPayload → f.length = 13 + len →
        (kind = .data ∧ num 4 1 = 0x01 ∨ kind = .ack ∧ num 4 1 = 0x02 ∧ len = 0) →
        ((crc16 ((f.drop 4).take (7 + len))).toNat ≠ num (11 + len) 2 →
          frameDecode maxPayload f = .checksumFail (BitVec.ofNat 32 (num 5 4))) ∧
        ((crc16 ((f.drop 4).take (7 + len))).toNat = num (11 + len) 2 →
          frameDecode maxPayload f =
            .valid kind (BitVec.ofNat 32 (num 5 4)) ((f.drop 11).take len) (BitVec.ofNat 32 (num 0 4))))

/-- R151: (a) no change of one byte and (b) no change of two adjacent bytes of bytes 4 to 12+L is taken for the
original packet; (c) a change of TIMESTAMP alone is never detected. -/
def Obligations.ByteChangesAreDetected : Prop :=
  ∀ (maxPayload : Nat) (kind : FrameKind) (seq : Word) (payload : Frame) (ts : Word) (f : Frame),
    maxPayload ≤ 4096 → payload.length ≤ maxPayload → (kind = .ack → payload = []) →
    f = frameEncode kind seq payload ts →
      (∀ (i : Nat) (x : Byte), 4 ≤ i → i < f.length → f.set i x ≠ f →
        frameDecode maxPayload (f.set i x) ≠ .valid kind seq payload ts) ∧
      (∀ (i : Nat) (x y : Byte), 4 ≤ i → i + 1 < f.length → (f.set i x).set (i + 1) y ≠ f →
        frameDecode maxPayload ((f.set i x).set (i + 1) y) ≠ .valid kind seq payload ts) ∧
      (∀ t3 t2 t1 t0 : Byte,
        frameDecode maxPayload (t3 :: t2 :: t1 :: t0 :: f.drop 4) = .valid kind seq payload (t3 ++ t2 ++ t1 ++ t0))

/-- R182: under SIMULATOR a corrupted frame differs from the frame taken in one byte of its payload or checksum, and
the peer's verifier reports ChecksumFail for it, whatever index and mask were chosen. How a choice out of range is
brought into range is the model's own (log entry 6). -/
def Obligations.SimulatorCorruptionGivesChecksumFail : Prop :=
  ∀ (maxPayload : Nat) (kind : FrameKind) (seq : Word) (payload : Frame) (ts : Word) (f : Frame) (c : LinkChoice),
    maxPayload ≤ 4096 → payload.length ≤ maxPayload → (kind = .ack → payload = []) →
    f = frameEncode kind seq payload ts →
      (∃ (i : Nat) (m : Byte), 11 ≤ i ∧ i < f.length ∧ m ≠ 0 ∧ corruptedFrame c f = f.set i (byteAt f i ^^^ m)) ∧
      frameDecode maxPayload (corruptedFrame c f) = .checksumFail seq

/-! ### The shared operations -/

/-- R285: an event joins the queue, or at a full queue it is lost, counted and flagged; nothing else changes. -/
def Obligations.PushEventNeverBlocks : Prop :=
  ∀ (b : Block) (code : EventCode) (sub : Byte) (seq : Word),
    (b.evq.length < b.par.evqDepth → b.pushEvent code sub seq = { b with evq := b.evq ++ [⟨code, sub, seq⟩] }) ∧
    (b.par.evqDepth ≤ b.evq.length →
      b.pushEvent code sub seq =
        { b with
          counters := { b.counters with evqOverflow := b.counters.evqOverflow + 1 }
          irqStatus := b.irqStatus ||| 0b01000 })

/-- R76: a frame joins TXQ whole, or at a full TXQ it is lost and counted; nothing else changes. -/
def Obligations.EmitFrameAppendsOrDrops : Prop :=
  ∀ (b : Block) (f : Frame),
    (b.txq.length < b.par.txqDepth → b.emitFrame f = { b with txq := b.txq ++ [f] }) ∧
    (b.par.txqDepth ≤ b.txq.length →
      b.emitFrame f = { b with counters := { b.counters with txqDrop := b.counters.txqDrop + 1 } })

/-- R10, R48: `cnt` increments its own counter modulo 2^32, as the host reads it, and no other. -/
def Obligations.CountIncrementsOneCounter : Prop :=
  ∀ (b : Block) (c c' : Counter),
    ((b.cnt c).readReg (.counter c)).toNat = ((b.readReg (.counter c)).toNat + 1) % 2 ^ 32 ∧
    (c' ≠ c → (b.cnt c).readReg (.counter c') = b.readReg (.counter c')) ∧
    (b.cnt c) = { b with counters := (b.cnt c).counters }

/-- R276: the interrupt output is the OR, over the five bits, of pending and enabled. -/
def Obligations.IrqIsPendingAndEnabled : Prop :=
  ∀ b : Block, b.irq = true ↔ ∃ i, i < 5 ∧ b.irqStatus.getLsbD i = true ∧ b.irqEnable.getLsbD i = true

/-! ### The host interface -/

/-- R24 to R48: what each register reads as, at its offset in the map of R23; the event codes are R286's. The word
read stands in the model's own field (log entry 3). -/
def Obligations.RegistersReadTheirFields : Prop :=
  ∀ (blk : BlockId) (s : State) (b : Block) (reads : Offset → Word → Prop),
    s.block blk = b → reads = HostReads blk s →
      reads 0x000 0x52554450 ∧
      reads 0x004 (BitVec.ofNat 8 b.par.txqDepth ++ BitVec.ofNat 8 b.par.evqDepth ++ BitVec.ofNat 16 b.par.maxPayload) ∧
      reads 0x008 0 ∧
      reads 0x00C b.cmdStatus ∧
      reads 0x010 (b.irqStatus.setWidth 32) ∧
      reads 0x014 (b.irqEnable.setWidth 32) ∧
      reads 0x018 b.now ∧
      reads 0x01C 0x00070001 ∧
      reads 0x020 ((0 : BitVec 26) ++
        (match b.failCause with | .none => 0#2 | .retryExhausted => 1#2 | .cancelled => 2#2) ++
        BitVec.ofBool (b.nextSeq.getLsbD 32) ++ BitVec.ofBool b.pendingValid ++
        (match b.txState with | .idle => 0#2 | .awaitingAck => 1#2 | .done => 2#2 | .failed => 3#2)) ∧
      reads 0x024 (b.nextSeq.setWidth 32) ∧
      reads 0x028 b.pendingSeq ∧
      reads 0x02C (b.pendingLen.setWidth 32) ∧
      reads 0x030 (b.retriesUsed.setWidth 32) ∧
      reads 0x034 b.timerRem ∧
      reads 0x038 b.timeout ∧
      reads 0x03C (b.maxRetries.setWidth 32) ∧
      reads 0x040 ((0 : BitVec 30) ++ BitVec.ofBool b.deliverValid ++ BitVec.ofBool (b.expSeq.getLsbD 32)) ∧
      reads 0x044 (b.expSeq.setWidth 32) ∧
      reads 0x048 b.deliverSeq ∧
      reads 0x04C (b.deliverLen.setWidth 32) ∧
      reads 0x050 ((0 : BitVec 24) ++ BitVec.ofNat 8 b.evq.length) ∧
      (b.evq = [] → reads 0x054 0 ∧ reads 0x058 0) ∧
      (∀ e rest, b.evq = e :: rest →
        reads 0x054 ((1 : BitVec 1) ++ (0 : BitVec 15) ++ e.sub ++
          (match e.code with
           | .pktSent => (0x01 : Byte) | .retransmit => 0x02 | .ackReceived => 0x03 | .staleAck => 0x04
           | .transferDone => 0x05 | .transferFailed => 0x06 | .dataAccepted => 0x07 | .duplicate => 0x08
           | .futureDiscard => 0x09 | .ackSent => 0x0A | .decodeFail => 0x0B | .checksumFail => 0x0C
           | .sinkBusy => 0x0D)) ∧
        reads 0x058 e.seq) ∧
      reads 0x060 b.counters.txData ∧ reads 0x064 b.counters.retx ∧ reads 0x068 b.counters.txAck ∧
      reads 0x06C b.counters.rxFrames ∧ reads 0x070 b.counters.decodeFail ∧ reads 0x074 b.counters.csumFail ∧
      reads 0x078 b.counters.rxAccept ∧ reads 0x07C b.counters.rxDup ∧ reads 0x080 b.counters.rxFuture ∧
      reads 0x084 b.counters.rxSinkBusy ∧ reads 0x088 b.counters.staleAck ∧ reads 0x08C b.counters.evqOverflow ∧
      reads 0x090 b.counters.txqDrop ∧ reads 0x094 b.counters.matchAck

/-- R120, R121: HOST_READ at every offset and every width. It changes nothing but the word the host receives (log entry
3), or records a host fault; that the width is an operand of 8 bits, and that a host fault is a next state, is the
model's reading (log entry 9). The bytes no write has reached since reset read as free values (log entry 4). -/
def Obligations.HostReadReturnsTheWord : Prop :=
  ∀ (blk : BlockId) (s : State) (b : Block) (off : Offset) (window : Memory → Nat → Byte),
    s.block blk = b →
    (window = fun m i => if i < b.par.maxPayload then (Memory.load? m i).getD (Config.freeByte s.draws i) else 0) →
      (∀ width : Byte, width ≠ 4 ∨ off.toNat % 4 ≠ 0 →
        ∃ v, exec (.hostRead blk width off) s = .next (s.setBlock blk { b with hostFault := true, readData := v })) ∧
      (∀ r : Reg, off = r.offset → HostReads blk s off (b.readReg r)) ∧
      (off.toNat % 4 = 0 → 0x1000 ≤ off.toNat → off.toNat < 0x2000 →
        ∀ j, j = off.toNat - 0x1000 →
          HostReads blk s off (window b.txbuf (j + 3) ++ window b.txbuf (j + 2) ++ window b.txbuf (j + 1) ++ window b.txbuf j)) ∧
      (off.toNat % 4 = 0 → 0x2000 ≤ off.toNat → off.toNat < 0x3000 →
        ∀ j, j = off.toNat - 0x2000 →
          HostReads blk s off (window b.rxbuf (j + 3) ++ window b.rxbuf (j + 2) ++ window b.rxbuf (j + 1) ++ window b.rxbuf j)) ∧
      (off.toNat % 4 = 0 → ((∀ r : Reg, off ≠ r.offset) ∧ off.toNat < 0x1000 ∨ 0x3000 ≤ off.toNat) → HostReads blk s off 0)

/-- R122, R121: HOST_WRITE at every offset and every width; that the width is an operand of 8 bits, and that a host
fault is a next state, is the model's reading (log entry 9). A write to CMD runs the command its word encodes; TXBUF takes
the four byte lanes that lie within it; every other aligned offset ignores the write. -/
def Obligations.HostWriteStoresOrCommands : Prop :=
  ∀ (blk : BlockId) (s : State) (b : Block) (off : Offset) (v : Word),
    s.block blk = b →
      (∀ width : Byte, width ≠ 4 ∨ off.toNat % 4 ≠ 0 →
        exec (.hostWrite blk width off v) s = .next (s.setBlock blk { b with hostFault := true })) ∧
      exec (.hostWrite blk 4 0x008 v) s = exec (decodeCommand blk v) s ∧
      exec (.hostWrite blk 4 0x010 v) s =
        .next (s.setBlock blk { b with irqStatus := b.irqStatus &&& ~~~(v.extractLsb' 0 5) }) ∧
      exec (.hostWrite blk 4 0x014 v) s = .next (s.setBlock blk { b with irqEnable := v.extractLsb' 0 5 }) ∧
      exec (.hostWrite blk 4 0x038 v) s = .next (s.setBlock blk { b with timeout := v }) ∧
      exec (.hostWrite blk 4 0x03C v) s = .next (s.setBlock blk { b with maxRetries := v.extractLsb' 0 16 }) ∧
      (off.toNat % 4 = 0 → 0x1000 ≤ off.toNat → off.toNat < 0x2000 →
        ∃ m, exec (.hostWrite blk 4 off v) s = .next (s.setBlock blk { b with txbuf := m }) ∧
          ∀ k, Memory.load? m k =
            if off.toNat - 0x1000 ≤ k ∧ k < off.toNat - 0x1000 + 4 ∧ k < b.par.maxPayload then
              some (v.extractLsb' (8 * (k - (off.toNat - 0x1000))) 8)
            else Memory.load? b.txbuf k) ∧
      (off.toNat % 4 = 0 → (off.toNat < 0x1000 ∨ 0x2000 ≤ off.toNat) →
        off.toNat ∉ [0x008, 0x010, 0x014, 0x038, 0x03C] → exec (.hostWrite blk 4 off v) s = .next s)

/-- R99, R124: the checks on a command word, in their order: an illegal opcode, then the reserved bits. -/
def Obligations.CommandWordChecksComeFirst : Prop :=
  ∀ (blk : BlockId) (s : State) (b : Block) (w : Word),
    s.block blk = b →
      (0x0A ≤ (w.extractLsb' 0 8).toNat →
        exec (decodeCommand blk w) s = .next (s.setBlock blk (b.withError (w.extractLsb' 0 8) 0x01))) ∧
      ((w.extractLsb' 0 8).toNat ≤ 0x09 → w.extractLsb' 0 8 ≠ 0x02 → w.extractLsb' 8 24 ≠ 0 →
        exec (decodeCommand blk w) s = .next (s.setBlock blk (b.withError (w.extractLsb' 0 8) 0x05))) ∧
      (w.extractLsb' 0 8 = 0x02 → w.extractLsb' 8 8 ≠ 0 →
        exec (decodeCommand blk w) s = .next (s.setBlock blk (b.withError 0x02 0x05)))

/-- R270, R277: every command word completes, and one whose result is not OK changes nothing of its block but
CMD_STATUS, which records its opcode and a code 0x01 to 0x06, and IRQ_STATUS.CMD_ERR. -/
def Obligations.CommandErrorsArePrecise : Prop :=
  ∀ (blk : BlockId) (s : State) (w : Word),
    ∃ b', exec (decodeCommand blk w) s = .next (s.setBlock blk b') ∧
      (b'.cmdStatus = (0 : Half) ++ w.extractLsb' 0 8 ++ (0 : Byte) ∨
        ∃ code : Byte, 1 ≤ code.toNat ∧ code.toNat ≤ 6 ∧ b' = (s.block blk).withError (w.extractLsb' 0 8) code)

/-- R130, R132, R134: NOP, CLR_COUNTERS and EVQ_POP, with their errors. -/
def Obligations.HousekeepingCommandsComplete : Prop :=
  ∀ (blk : BlockId) (s : State) (b : Block),
    s.block blk = b →
      (∀ rsvd, exec (.nop blk rsvd) s =
        .next (s.setBlock blk (if rsvd = 0 then b.withOk 0x00 else b.withError 0x00 0x05))) ∧
      (∀ rsvd, exec (.clrCounters blk rsvd) s =
        .next (s.setBlock blk
          (if rsvd = 0 then
            { b with
              cmdStatus := 0x00000800
              counters := { txData := 0, retx := 0, txAck := 0, rxFrames := 0, decodeFail := 0, csumFail := 0,
                            rxAccept := 0, rxDup := 0, rxFuture := 0, rxSinkBusy := 0, staleAck := 0,
                            evqOverflow := 0, txqDrop := 0, matchAck := 0 } }
          else b.withError 0x08 0x05))) ∧
      (∀ rsvd, rsvd ≠ 0 → exec (.evqPop blk rsvd) s = .next (s.setBlock blk (b.withError 0x07 0x05))) ∧
      (b.evq = [] → exec (.evqPop blk 0) s = .next (s.setBlock blk (b.withError 0x07 0x06))) ∧
      (∀ e rest, b.evq = e :: rest →
        exec (.evqPop blk 0) s = .next (s.setBlock blk { b with evq := rest, cmdStatus := 0x00000700 }))

/-- R300, R136: RESET and SOFT_RESET, every piece of block state. What the host received last is not block state, and
RETX is left with the free content that this draw numbers (log entry 5). -/
def Obligations.ResetSetsEveryField : Prop :=
  ∀ (blk : BlockId) (s : State) (b r : Block),
    s.block blk = b →
    r = { par := b.par, txState := .idle, nextSeq := 0, pendingValid := false, pendingSeq := 0, pendingLen := 0,
          retriesUsed := 0, timerRem := 0, failCause := .none, expSeq := 0, deliverValid := false, deliverSeq := 0,
          deliverLen := 0, timeout := 0, maxRetries := 0, irqEnable := 0, now := 0, cmdStatus := 0, irqStatus := 0,
          evq := [],
          counters := { txData := 0, retx := 0, txAck := 0, rxFrames := 0, decodeFail := 0, csumFail := 0,
                        rxAccept := 0, rxDup := 0, rxFuture := 0, rxSinkBusy := 0, staleAck := 0, evqOverflow := 0,
                        txqDrop := 0, matchAck := 0 },
          txbuf := [], retx := .unspecified s.draws, rxbuf := [], txq := [], hostFault := b.hostFault,
          delivered := [], readData := b.readData } →
      exec (.reset blk) s = .next (s.setBlock blk r) ∧
      exec (.softReset blk 0) s = .next (s.setBlock blk { r with cmdStatus := 0x00000900 }) ∧
      (∀ rsvd, rsvd ≠ 0 → exec (.softReset blk rsvd) s = .next (s.setBlock blk (b.withError 0x09 0x05)))

/-- R300, R301: the state after reset of every block, at the values the spec states, with the default sizes of R5. -/
def Obligations.ResetStateIsFresh : Prop :=
  ∀ blk : BlockId, ∀ b, b = State.reset.block blk →
    b.txState = .idle ∧ b.nextSeq = 0 ∧ b.pendingValid = false ∧ b.pendingSeq = 0 ∧ b.pendingLen = 0 ∧
    b.retriesUsed = 0 ∧ b.timerRem = 0 ∧ b.failCause = .none ∧ b.timeout = 0 ∧ b.maxRetries = 0 ∧
    b.expSeq = 0 ∧ b.deliverValid = false ∧ b.deliverSeq = 0 ∧ b.deliverLen = 0 ∧ b.now = 0 ∧
    b.cmdStatus = 0 ∧ b.irqStatus = 0 ∧ b.irqEnable = 0 ∧ b.evq = [] ∧ b.txq = [] ∧ b.delivered = [] ∧
    b.hostFault = false ∧ (∀ c, b.counters.get c = 0) ∧
    (∀ i, Memory.load? b.txbuf i = none ∧ Memory.load? b.rxbuf i = none) ∧
    b.par.maxPayload = 1024 ∧ b.par.evqDepth = 16 ∧ b.par.txqDepth = 4

/-- R78: a read after a write returns the written value, as far as the register keeps it (R30, R38, R39). -/
def Obligations.ReadAfterWriteReturnsTheValue : Prop :=
  ∀ (blk : BlockId) (s : State) (v : Word),
    ∃ t1 t2 t3 u1 u2 u3,
      exec (.hostWrite blk 4 0x038 v) s = .next t1 ∧ exec (.hostRead blk 4 0x038) t1 = .next u1 ∧
      (u1.block blk).readData = v ∧
      exec (.hostWrite blk 4 0x03C v) s = .next t2 ∧ exec (.hostRead blk 4 0x03C) t2 = .next u2 ∧
      (u2.block blk).readData = v &&& 0x0000FFFF ∧
      exec (.hostWrite blk 4 0x014 v) s = .next t3 ∧ exec (.hostRead blk 4 0x014) t3 = .next u3 ∧
      (u3.block blk).readData = v &&& 0x0000001F

/-! ### The sender -/

/-- R202, with R34 to R36 and D35: TX_START. That PENDING_SEQ, PENDING_LEN and RETRIES_USED keep their last values is the
model's choice between R34 to R36 with D35 and R202, whose pseudocode says 0 (log entry 14). -/
def Obligations.TxStartOpensASession : Prop :=
  ∀ (blk : BlockId) (s : State) (b : Block),
    s.block blk = b →
      (∀ rsvd, rsvd ≠ 0 → exec (.txStart blk rsvd) s = .next (s.setBlock blk (b.withError 0x01 0x05))) ∧
      (b.txState = .awaitingAck → exec (.txStart blk 0) s = .next (s.setBlock blk (b.withError 0x01 0x02))) ∧
      (b.txState ≠ .awaitingAck → exec (.txStart blk 0) s = .next (s.setBlock blk
        { b with
          txState := .idle, nextSeq := 0, pendingValid := false, timerRem := 0, failCause := .none
          cmdStatus := 0x00000100 }))

/-- R204: TX_SEND, with its errors in their order. The payload is TXBUF's first LEN bytes; a byte that nothing has
written since reset is the free value of this draw, which is the model's choice (log entry 4). At a full event queue the
overflow is counted and flagged beside it (R285, log entry 13). -/
def Obligations.TxSendHoldsAndEmitsTheFrame : Prop :=
  ∀ (blk : BlockId) (s : State) (b : Block) (len : Half),
    s.block blk = b →
      (∀ rsvd, rsvd ≠ 0 → exec (.txSend blk len rsvd) s = .next (s.setBlock blk (b.withError 0x02 0x05))) ∧
      (b.txState ≠ .idle → exec (.txSend blk len 0) s = .next (s.setBlock blk (b.withError 0x02 0x02))) ∧
      (b.txState = .idle → b.par.maxPayload < len.toNat →
        exec (.txSend blk len 0) s = .next (s.setBlock blk (b.withError 0x02 0x03))) ∧
      (b.txState = .idle → len.toNat ≤ b.par.maxPayload → b.nextSeq.toNat = 2 ^ 32 →
        exec (.txSend blk len 0) s = .next (s.setBlock blk (b.withError 0x02 0x04))) ∧
      (b.txState = .idle → len.toNat ≤ b.par.maxPayload → b.nextSeq.toNat ≠ 2 ^ 32 →
        ∀ (p f : Frame),
          p = (List.range len.toNat).map (fun j => (Memory.load? b.txbuf j).getD (Config.freeByte s.draws j)) →
          f = frameEncode .data (b.nextSeq.setWidth 32) p b.now →
            exec (.txSend blk len 0) s = .next (s.setBlock blk
              ((((({ b with
                  retx := .held f, pendingSeq := b.nextSeq.setWidth 32, pendingLen := len, pendingValid := true
                  retriesUsed := 0, timerRem := b.timeout, txState := .awaitingAck }).emitFrame f).cnt
                    .txData).pushEvent .pktSent 0 (b.nextSeq.setWidth 32)).withOk 0x02)))

/-- R208, R285: TX_END. At a full event queue the overflow is counted and flagged beside it (log entry 13). -/
def Obligations.TxEndCompletesTheTransfer : Prop :=
  ∀ (blk : BlockId) (s : State) (b : Block),
    s.block blk = b →
      (∀ rsvd, rsvd ≠ 0 → exec (.txEnd blk rsvd) s = .next (s.setBlock blk (b.withError 0x03 0x05))) ∧
      (b.txState ≠ .idle → exec (.txEnd blk 0) s = .next (s.setBlock blk (b.withError 0x03 0x02))) ∧
      (b.txState = .idle → exec (.txEnd blk 0) s = .next (s.setBlock blk
        ((({ b with txState := .done, irqStatus := b.irqStatus ||| 0b00001 }).pushEvent .transferDone 0
          (b.nextSeq.setWidth 32)).withOk 0x03)))

/-- R210, R285: TX_CANCEL. At a full event queue the overflow is counted and flagged beside it (log entry 13). -/
def Obligations.TxCancelFailsTheTransfer : Prop :=
  ∀ (blk : BlockId) (s : State) (b : Block),
    s.block blk = b →
      (∀ rsvd, rsvd ≠ 0 → exec (.txCancel blk rsvd) s = .next (s.setBlock blk (b.withError 0x04 0x05))) ∧
      (b.txState = .done ∨ b.txState = .failed →
        exec (.txCancel blk 0) s = .next (s.setBlock blk (b.withError 0x04 0x02))) ∧
      (b.txState = .idle ∨ b.txState = .awaitingAck → exec (.txCancel blk 0) s = .next (s.setBlock blk
        ((({ b with
            txState := .failed, failCause := .cancelled, pendingValid := false, timerRem := 0
            irqStatus := b.irqStatus ||| 0b00010 }).pushEvent .transferFailed 2
              (if b.pendingValid then b.pendingSeq else b.nextSeq.setWidth 32)).withOk 0x04)))

/-- R206, R285: the matching ACK. At a full event queue the overflow is counted and flagged beside it, though R206 says
"No IRQ bit" (log entry 13). -/
def Obligations.MatchingAckAdvances : Prop :=
  ∀ (blk : BlockId) (s : State) (b : Block) (f : Frame) (seq ts : Word),
    s.block blk = b → frameDecode b.par.maxPayload f = .valid .ack seq [] ts →
    b.txState = .awaitingAck → seq = b.pendingSeq →
      exec (.rxAckMatch blk f) s = .next (s.setBlock blk
        ((({ b with txState := .idle, pendingValid := false, timerRem := 0, nextSeq := b.nextSeq + 1 }).cnt
          .matchAck).pushEvent .ackReceived 0 seq))

/-- R207, R285: the stale ACK is counted and reported, and changes nothing else; at a full event queue the report is
lost, and the overflow is counted and flagged instead (log entry 13). -/
def Obligations.StaleAckIsCountedAndReported : Prop :=
  ∀ (blk : BlockId) (s : State) (b : Block) (f : Frame) (seq ts : Word),
    s.block blk = b → frameDecode b.par.maxPayload f = .valid .ack seq [] ts →
    ¬(b.txState = .awaitingAck ∧ seq = b.pendingSeq) →
      exec (.rxAckStale blk f) s = .next (s.setBlock blk ((b.cnt .staleAck).pushEvent .staleAck
        (match b.txState with | .idle => 0 | .awaitingAck => 1 | .done => 2 | .failed => 3) seq))

/-- R215, R217, R218, R285: TICK, in the four cases that arise. Under SIMULATOR it needs that no frame is already due, in
either direction (R280, log entry 10); at a full event queue the overflow is counted and flagged (log entry 13). -/
def Obligations.TickRunsTheTimer : Prop :=
  ∀ (blk : BlockId) (s : State) (b : Block),
    s.block blk = b → (s.link.model = .any ∨ ∀ e ∈ s.link.flightAB ++ s.link.flightBA, e.2 ≠ 0) →
      (b.txState ≠ .awaitingAck → exec (.tick blk) s = .next (s.setBlock blk { b with now := b.now + 1 })) ∧
      (b.txState = .awaitingAck → 1 < b.timerRem.toNat → exec (.tick blk) s =
        .next (s.setBlock blk { b with now := b.now + 1, timerRem := b.timerRem - 1 })) ∧
      (b.txState = .awaitingAck → b.timerRem.toNat ≤ 1 → b.retriesUsed.toNat < b.maxRetries.toNat →
        exec (.tick blk) s = .next (s.setBlock blk
          ((({ b.emitFrame b.retxBytes with
              now := b.now + 1, retriesUsed := b.retriesUsed + 1, timerRem := b.timeout }).cnt .retx).pushEvent
                .retransmit (BitVec.ofNat 8 (min (b.retriesUsed.toNat + 1) 255)) b.pendingSeq))) ∧
      (b.txState = .awaitingAck → b.timerRem.toNat ≤ 1 → b.maxRetries.toNat ≤ b.retriesUsed.toNat →
        exec (.tick blk) s = .next (s.setBlock blk
          (({ b with
              now := b.now + 1, txState := .failed, failCause := .retryExhausted, pendingValid := false
              timerRem := 0, irqStatus := b.irqStatus ||| 0b00010 }).pushEvent .transferFailed 1 b.pendingSeq)))

/-- R217, R218: the two rows of EXPIRE, where EXPIRE runs. In AWAITING_ACK with RETX held, the frame re-emitted is the
held one byte for byte. That these rows are operations of their own is the model's choice (log entry 8), that no frame may
be due in either direction is log entry 10, and the overflow of a full event queue is R285's (log entry 13). -/
def Obligations.ExpireRetransmitsOrFails : Prop :=
  ∀ (blk : BlockId) (s : State) (b : Block),
    s.block blk = b → s.link.model = .any ∨ (∀ e ∈ s.link.flightAB ++ s.link.flightBA, e.2 ≠ 0) →
    b.txState = .awaitingAck → b.timerRem = 0 →
      (∀ f, b.retx = .held f → b.retriesUsed.toNat < b.maxRetries.toNat →
        exec (.expireRetransmit blk) s = .next (s.setBlock blk
          ((({ b.emitFrame f with retriesUsed := b.retriesUsed + 1, timerRem := b.timeout }).cnt .retx).pushEvent
            .retransmit (BitVec.ofNat 8 (min (b.retriesUsed.toNat + 1) 255)) b.pendingSeq))) ∧
      (b.maxRetries.toNat ≤ b.retriesUsed.toNat →
        exec (.expireFail blk) s = .next (s.setBlock blk
          (({ b with
              txState := .failed, failCause := .retryExhausted, pendingValid := false
              irqStatus := b.irqStatus ||| 0b00010 }).pushEvent .transferFailed 1 b.pendingSeq)))

/-! ### The receiver -/

/-- R240: RX_DATA is the row of its sequence's class, compared unsigned at 33 bits. -/
def Obligations.RxDataClassifiesTheSequence : Prop :=
  ∀ (blk : BlockId) (s : State) (b : Block) (f p : Frame) (seq ts : Word),
    s.block blk = b → frameDecode b.par.maxPayload f = .valid .data seq p ts →
      (seq.toNat = b.expSeq.toNat → b.deliverValid = false →
        exec (.rxData blk f) s = exec (.rxAccept blk f) s ∧ ∃ t, exec (.rxData blk f) s = .next t) ∧
      (seq.toNat = b.expSeq.toNat → b.deliverValid = true →
        exec (.rxData blk f) s = exec (.rxSinkBusy blk f) s ∧ ∃ t, exec (.rxData blk f) s = .next t) ∧
      (seq.toNat < b.expSeq.toNat →
        exec (.rxData blk f) s = exec (.rxDuplicate blk f) s ∧ ∃ t, exec (.rxData blk f) s = .next t) ∧
      (b.expSeq.toNat < seq.toNat →
        exec (.rxData blk f) s = exec (.rxFuture blk f) s ∧ ∃ t, exec (.rxData blk f) s = .next t)

/-- R241, R245: RX_ACCEPT delivers the payload, advances EXP_SEQ and sends the ACK; bytes of RXBUF at and above the
payload's length keep what they held (R42). At a full event queue the overflow is counted and flagged beside it (R285,
log entry 13). -/
def Obligations.RxAcceptDeliversAndAcknowledges : Prop :=
  ∀ (blk : BlockId) (s : State) (b : Block) (f p : Frame) (seq ts : Word),
    s.block blk = b → frameDecode b.par.maxPayload f = .valid .data seq p ts →
    seq.toNat = b.expSeq.toNat → b.deliverValid = false →
      ∃ m,
        exec (.rxAccept blk f) s = .next (s.setBlock blk
          ((((({ b with
              rxbuf := m, deliverLen := BitVec.ofNat 16 p.length, deliverSeq := seq, deliverValid := true
              delivered := b.delivered ++ [p], expSeq := b.expSeq + 1
              irqStatus := b.irqStatus ||| 0b00100 }).cnt .rxAccept).pushEvent .dataAccepted 0 seq).emitFrame
                (frameEncode .ack seq [] b.now)).cnt .txAck |>.pushEvent .ackSent 0 seq)) ∧
        ∀ j, Memory.load? m j = if j < p.length then p[j]? else Memory.load? b.rxbuf j

/-- R242, R243, R244: the three outcomes that deliver nothing, and the ACK of a duplicate (R245). At a full event queue
the overflow is counted and flagged beside it, though the rules name no IRQ bit (R285, log entry 13). -/
def Obligations.OtherDataChangesNoSession : Prop :=
  ∀ (blk : BlockId) (s : State) (b : Block) (f p : Frame) (seq ts : Word),
    s.block blk = b → frameDecode b.par.maxPayload f = .valid .data seq p ts →
      (seq.toNat = b.expSeq.toNat → b.deliverValid = true →
        exec (.rxSinkBusy blk f) s = .next (s.setBlock blk ((b.cnt .rxSinkBusy).pushEvent .sinkBusy 0 seq))) ∧
      (seq.toNat < b.expSeq.toNat →
        exec (.rxDuplicate blk f) s = .next (s.setBlock blk
          (((((b.cnt .rxDup).pushEvent .duplicate 0 seq).emitFrame (frameEncode .ack seq [] b.now)).cnt
            .txAck).pushEvent .ackSent 0 seq))) ∧
      (b.expSeq.toNat < seq.toNat →
        exec (.rxFuture blk f) s = .next (s.setBlock blk ((b.cnt .rxFuture).pushEvent .futureDiscard 0 seq)))

/-- R248, R249: RX_RESET and RX_RELEASE, with their errors. -/
def Obligations.ReceiverCommandsComplete : Prop :=
  ∀ (blk : BlockId) (s : State) (b : Block),
    s.block blk = b →
      (∀ rsvd, exec (.rxReset blk rsvd) s = .next (s.setBlock blk
        (if rsvd = 0 then { b with expSeq := 0, delivered := [], cmdStatus := 0x00000500 }
         else b.withError 0x05 0x05))) ∧
      (∀ rsvd, rsvd ≠ 0 → exec (.rxRelease blk rsvd) s = .next (s.setBlock blk (b.withError 0x06 0x05))) ∧
      (b.deliverValid = true → exec (.rxRelease blk 0) s =
        .next (s.setBlock blk { b with deliverValid := false, cmdStatus := 0x00000600 })) ∧
      (b.deliverValid = false → exec (.rxRelease blk 0) s = .next (s.setBlock blk (b.withError 0x06 0x06)))

/-! ### The link input -/

/-- R161, R285, R250 (e): a frame that the verifier rejects changes a counter and the event queue only, and at a full
event queue the overflow's own counter and IRQ bit (log entry 13). -/
def Obligations.InvalidFramesAreInert : Prop :=
  ∀ (blk : BlockId) (s : State) (b : Block) (f : Frame),
    s.block blk = b →
      (∀ sub, frameDecode b.par.maxPayload f = .decodeFail sub →
        exec (.rxInvalid blk f) s = .next (s.setBlock blk ((b.cnt .decodeFail).pushEvent .decodeFail
          (match sub with | .short => 1 | .oversize => 2 | .length => 3 | .badKind => 4 | .ackPayload => 5) 0))) ∧
      (∀ sc, frameDecode b.par.maxPayload f = .checksumFail sc →
        exec (.rxInvalid blk f) s = .next (s.setBlock blk ((b.cnt .csumFail).pushEvent .checksumFail 0 sc)))

/-- The model's choice (log entry 8): a row that names one case of LINK_RX or of TICK, offered where that case does not
arise, is refused by name, whatever the verdict of the frame. Log entry 10: under SIMULATOR a frame due in either
direction stops TICK and the rows of EXPIRE. -/
def Obligations.CaseRowsStopOutsideTheirCase : Prop :=
  ∀ (blk : BlockId) (s : State) (b : Block) (f : Frame) (v : Verdict) (stop : StepOutcome),
    s.block blk = b → v = frameDecode b.par.maxPayload f → stop = .refused .notThisCase →
      (∀ kind seq p ts, v = .valid kind seq p ts → exec (.rxInvalid blk f) s = stop) ∧
      ((∀ kind seq p ts, v ≠ .valid kind seq p ts) →
        exec (.rxAckMatch blk f) s = stop ∧ exec (.rxAckStale blk f) s = stop ∧ exec (.rxData blk f) s = stop ∧
        exec (.rxAccept blk f) s = stop ∧ exec (.rxSinkBusy blk f) s = stop ∧
        exec (.rxDuplicate blk f) s = stop ∧ exec (.rxFuture blk f) s = stop) ∧
      (∀ seq p ts, v = .valid .ack seq p ts →
        (¬(b.txState = .awaitingAck ∧ seq = b.pendingSeq) → exec (.rxAckMatch blk f) s = stop) ∧
        (b.txState = .awaitingAck ∧ seq = b.pendingSeq → exec (.rxAckStale blk f) s = stop) ∧
        exec (.rxData blk f) s = stop ∧ exec (.rxAccept blk f) s = stop ∧ exec (.rxSinkBusy blk f) s = stop ∧
        exec (.rxDuplicate blk f) s = stop ∧ exec (.rxFuture blk f) s = stop) ∧
      (∀ seq p ts, v = .valid .data seq p ts →
        exec (.rxAckMatch blk f) s = stop ∧ exec (.rxAckStale blk f) s = stop ∧
        (seq.toNat ≠ b.expSeq.toNat ∨ b.deliverValid = true → exec (.rxAccept blk f) s = stop) ∧
        (seq.toNat ≠ b.expSeq.toNat ∨ b.deliverValid = false → exec (.rxSinkBusy blk f) s = stop) ∧
        (b.expSeq.toNat ≤ seq.toNat → exec (.rxDuplicate blk f) s = stop) ∧
        (seq.toNat ≤ b.expSeq.toNat → exec (.rxFuture blk f) s = stop)) ∧
      ((s.link.model = .any ∨ ∀ e ∈ s.link.flightAB ++ s.link.flightBA, e.2 ≠ 0) →
        (¬(b.txState = .awaitingAck ∧ b.timerRem = 0) →
          exec (.expireRetransmit blk) s = stop ∧ exec (.expireFail blk) s = stop) ∧
        (b.retriesUsed.toNat < b.maxRetries.toNat → exec (.expireFail blk) s = stop) ∧
        (b.maxRetries.toNat ≤ b.retriesUsed.toNat → exec (.expireRetransmit blk) s = stop)) ∧
      (s.link.model = .simulator → (∃ e ∈ s.link.flightAB ++ s.link.flightBA, e.2 = 0) →
        exec (.tick blk) s = .refused .notEnabled ∧ exec (.expireRetransmit blk) s = .refused .notEnabled ∧
        exec (.expireFail blk) s = .refused .notEnabled)

/-- R160: LINK_RX counts the frame and then is the one row its verdict resolves into; it completes on every byte
sequence, in every state. -/
def Obligations.LinkRxResolvesEveryFrame : Prop :=
  ∀ (blk : BlockId) (s s1 : State) (b : Block) (f : Frame) (v : Verdict),
    s.block blk = b → s1 = s.setBlock blk (b.cnt .rxFrames) → v = frameDecode b.par.maxPayload f →
      (∀ sub, v = .decodeFail sub → exec (.linkRx blk f) s = exec (.rxInvalid blk f) s1) ∧
      (∀ sc, v = .checksumFail sc → exec (.linkRx blk f) s = exec (.rxInvalid blk f) s1) ∧
      (∀ seq p ts, v = .valid .ack seq p ts → b.txState = .awaitingAck ∧ seq = b.pendingSeq →
        exec (.linkRx blk f) s = exec (.rxAckMatch blk f) s1) ∧
      (∀ seq p ts, v = .valid .ack seq p ts → ¬(b.txState = .awaitingAck ∧ seq = b.pendingSeq) →
        exec (.linkRx blk f) s = exec (.rxAckStale blk f) s1) ∧
      (∀ seq p ts, v = .valid .data seq p ts → exec (.linkRx blk f) s = exec (.rxData blk f) s1) ∧
      ∃ b', exec (.linkRx blk f) s = .next (s.setBlock blk b') ∧ b'.sameConfig b

/-- R250 (d): a frame below EXP_SEQ that arrives at a block whose TXQ has room delivers nothing, changes neither session,
and puts one ACK of its own sequence in TXQ. -/
def Obligations.DuplicatesAreAcknowledgedNotDelivered : Prop :=
  ∀ (blk : BlockId) (s : State) (b : Block) (f p : Frame) (seq ts : Word),
    s.block blk = b → frameDecode b.par.maxPayload f = .valid .data seq p ts →
    seq.toNat < b.expSeq.toNat → b.txq.length < b.par.txqDepth →
      ∃ b', exec (.linkRx blk f) s = .next (s.setBlock blk b') ∧ b.sameReceiver b' ∧ b.sameSender b' ∧
        b'.txq = b.txq ++ [frameEncode .ack seq [] b.now]

/-! ### The link agent -/

/-- R180: LINK_TAKE moves the head of TXQ to the link agent's admission; it is not enabled on an empty TXQ, and there it is
refused, which is the model's reading (log entry 10). -/
def Obligations.LinkTakeMovesTheHead : Prop :=
  ∀ (blk : BlockId) (s : State) (b : Block),
    s.block blk = b →
      (∀ f rest, b.txq = f :: rest →
        exec (.linkTake blk) s = exec (.linkAdmit blk.outbound f) (s.setBlock blk { b with txq := rest }) ∧
        ∃ t, exec (.linkTake blk) s = .next t ∧ t.block blk = { b with txq := rest }) ∧
      (b.txq = [] → exec (.linkTake blk) s = .refused .notEnabled)

/-- R182, R183, R187 under SIMULATOR: LINK_ADMIT always completes. It either drops the frame, which it may not where
p = 0 and must where p = 1, or puts one entry in flight, with a delay of the profile's range, and with the frame as
it was or, where the profile lets it, with one byte of bytes 11 to |f|-1 XORed with a nonzero mask. The blocks and
the other direction are unchanged. The choice is the next resolution, or a free value (log entry 6). That a frame of 11
bytes or fewer goes into flight as it was even where p = 1 is the model's reading, because R182 step 3 has no byte to
choose there (log entry 11). -/
def Obligations.LinkAdmitStaysWithinTheProfile : Prop :=
  ∀ (d d' : Direction) (f : Frame) (s : State) (pr : Profile),
    s.link.model = .simulator → pr = s.link.profile d → d' ≠ d →
      ∃ t, exec (.linkAdmit d f) s = .next t ∧ t.blockA = s.blockA ∧ t.blockB = s.blockB ∧
        t.link.model = s.link.model ∧ t.link.profileAB = s.link.profileAB ∧ t.link.profileBA = s.link.profileBA ∧
        t.link.flight d' = s.link.flight d' ∧ t.link.choices = s.link.choices.tail ∧
        ((pr.loss ≠ .never ∧ t.link.flight d = s.link.flight d ∧ t.link.trace = s.link.trace ++ [.dropped d f]) ∨
         (pr.loss ≠ .always ∧ ∃ g due, t.link.flight d = s.link.flight d ++ [(g, due)] ∧
            pr.delayMin ≤ due ∧ due ≤ pr.delayMax ∧
            ((g = f ∧ (pr.corruption ≠ .always ∨ f.length ≤ 11) ∧ t.link.trace = s.link.trace) ∨
             (pr.corruption ≠ .never ∧ t.link.trace = s.link.trace ++ [.corrupted d f] ∧
                ∃ (i : Nat) (m : Byte), 11 ≤ i ∧ i < f.length ∧ m ≠ 0 ∧ g = f.set i (byteAt f i ^^^ m)))))

/-- R182, R183, R185, R187: LINK_ADMIT as a function of the choice it takes, which is the next resolution, or the free
value of this draw where none is left (log entry 6). Under ANY the frame may be replaced, delayed and copied at will,
which is the model's form of R185 (log entry 12). The guard 11 < |f|, by which a frame of 11 bytes or fewer is never
corrupted, even where p = 1, is the model's reading too (log entry 11). -/
def Obligations.LinkAdmitFollowsItsChoice : Prop :=
  ∀ (d : Direction) (f g : Frame) (s : State) (c : LinkChoice) (pr : Profile) (corrupt : Bool),
    (s.link.choices.head? = some c ∨ s.link.choices = [] ∧ c = Config.freeChoice s.draws) →
    pr = s.link.profile d →
    corrupt = (decide (11 < f.length) &&
      (decide (pr.corruption = .always) || decide (pr.corruption = .sometimes) && c.corrupt)) →
    g = (if corrupt then
          f.set (max 11 (min (f.length - 1) c.index))
            (byteAt f (max 11 (min (f.length - 1) c.index)) ^^^ (if c.mask = 0 then 1 else c.mask))
        else f) →
      ((pr.loss = .always ∨ pr.loss = .sometimes ∧ c.drop = true) →
        exec (.linkAdmit d f) s = .next { s with
          link := { s.link with choices := s.link.choices.tail, trace := s.link.trace ++ [.dropped d f] } }) ∧
      ((pr.loss = .never ∨ pr.loss = .sometimes ∧ c.drop = false) →
        exec (.linkAdmit d f) s = .next { s with
          link := { s.link.setFlight d (s.link.flight d ++
              (match s.link.model with
               | .simulator => [(g, max pr.delayMin (min pr.delayMax c.delay))]
               | .any => (c.replace.getD g, c.delay) :: c.extra)) with
            choices := s.link.choices.tail
            trace := s.link.trace ++ (if corrupt then [.corrupted d f] else []) } })

/-- R182, R183: every outcome the profile allows is reached by some choice, so no run of the link agent is left out. That
choices stand in a list of the state is the model's own (log entry 6). -/
def Obligations.LinkAdmitReachesEveryOutcome : Prop :=
  ∀ (d : Direction) (f : Frame) (s : State) (pr : Profile) (rest : List LinkChoice),
    s.link.model = .simulator → pr = s.link.profile d →
      (pr.loss ≠ .never → ∃ c t, exec (.linkAdmit d f) { s with link := { s.link with choices := c :: rest } } =
        .next t ∧ t.link.flight d = s.link.flight d) ∧
      (∀ due, pr.loss ≠ .always → pr.delayMin ≤ due → due ≤ pr.delayMax →
        (pr.corruption ≠ .always →
          ∃ c t, exec (.linkAdmit d f) { s with link := { s.link with choices := c :: rest } } = .next t ∧
            t.link.flight d = s.link.flight d ++ [(f, due)]) ∧
        (∀ (i : Nat) (m : Byte), pr.corruption ≠ .never → 11 ≤ i → i < f.length → m ≠ 0 →
          ∃ c t, exec (.linkAdmit d f) { s with link := { s.link with choices := c :: rest } } = .next t ∧
            t.link.flight d = s.link.flight d ++ [(f.set i (byteAt f i ^^^ m), due)]))

/-- R184: LINK_DELIVER takes one copy of a due frame out of flight and is LINK_RX of it on the receiving block;
otherwise it is not enabled. The clauses for ANY, under which an entry that is not yet due may be taken too, are the
model's choice (log entry 12); that an operation not enabled is refused is log entry 10. -/
def Obligations.LinkDeliverHandsOverADueFrame : Prop :=
  ∀ (d : Direction) (f : Frame) (s : State),
    (s.link.model = .simulator → (f, 0) ∈ s.link.flight d →
      exec (.linkDeliver d f) s =
        exec (.linkRx d.dst f) { s with link := s.link.setFlight d ((s.link.flight d).erase (f, 0)) }) ∧
    (s.link.model = .any → (∃ due, (f, due) ∈ s.link.flight d) →
      ∃ l1 due l2, s.link.flight d = l1 ++ (f, due) :: l2 ∧
        exec (.linkDeliver d f) s = exec (.linkRx d.dst f) { s with link := s.link.setFlight d (l1 ++ l2) }) ∧
    (s.link.model = .simulator → (f, 0) ∉ s.link.flight d → exec (.linkDeliver d f) s = .refused .notEnabled) ∧
    (s.link.model = .any → (∀ due, (f, due) ∉ s.link.flight d) → exec (.linkDeliver d f) s = .refused .notEnabled) ∧
    (∀ due, (f, due) ∈ s.link.flight d → (due = 0 ∨ s.link.model = .any) →
      ∃ t, exec (.linkDeliver d f) s = .next t ∧ t.block d.src = s.block d.src)

/-- R189: SYS_TICK is TICK on both blocks, then the ageing of every frame in flight; under SIMULATOR it is not enabled
while a frame is due or a TXQ is not empty, and there it is refused, which is the model's reading (log entry 10). -/
def Obligations.SysTickAdvancesSharedTime : Prop :=
  ∀ s : State,
    ((s.link.model = .any ∨
        (∀ e ∈ s.link.flightAB ++ s.link.flightBA, e.2 ≠ 0) ∧ s.blockA.txq = [] ∧ s.blockB.txq = []) →
      ∃ t, exec .sysTick s = .next t ∧
        t.offered = s.offered ∧ t.draws = s.draws ∧ t.link.choices = s.link.choices ∧ t.link.trace = s.link.trace ∧
        t.link.model = s.link.model ∧ t.link.profileAB = s.link.profileAB ∧ t.link.profileBA = s.link.profileBA ∧
        t.link.flightAB = s.link.flightAB.map (fun e => (e.1, e.2 - 1)) ∧
        t.link.flightBA = s.link.flightBA.map (fun e => (e.1, e.2 - 1)) ∧
        (∀ blk, ∃ u, exec (.tick blk) s = .next u ∧ t.block blk = u.block blk)) ∧
    (s.link.model = .simulator →
      ((∃ e ∈ s.link.flightAB ++ s.link.flightBA, e.2 = 0) ∨ s.blockA.txq ≠ [] ∨ s.blockB.txq ≠ []) →
        exec .sysTick s = .refused .notEnabled)

/-! ### Rules of the whole machine -/

/-- R284, R302, R5: an operation leaves a block that it does not act on, and a link agent that it does not act on, as
they were; and it never writes a parameter, a profile or the link model. -/
def Obligations.OperationsStayOnTheirAgents : Prop :=
  ∀ (i : Instr) (s t : State),
    exec i s = .next t →
      (∀ blk, actsOn blk i = false → t.block blk = s.block blk) ∧
      (actsOnLink i = false → t.link = s.link) ∧
      (∀ blk, (t.block blk).par = (s.block blk).par) ∧
      t.link.model = s.link.model ∧ t.link.profileAB = s.link.profileAB ∧ t.link.profileBA = s.link.profileBA ∧
      t.offered = s.offered ∧ t.draws = s.draws

/-- R284: no operation of the sender half writes the receiver session, and none of the receiver half the sender's. -/
def Obligations.HalvesDoNotWriteEachOther : Prop :=
  ∀ (i : Instr) (s t : State) (blk : BlockId),
    exec i s = .next t →
      (isSenderOp i = true → (s.block blk).sameReceiver (t.block blk)) ∧
      (isReceiverOp i = true → (s.block blk).sameSender (t.block blk))

/-- R284: no rule of the receiver half reads the sender session. With any other sender session (RETX and TXBUF with it)
on either block, an operation of the receiver half ends in the same state but for that session, which it leaves. -/
def Obligations.ReceiverDoesNotReadTheSender : Prop :=
  ∀ (i : Instr) (blk : BlockId) (s t : State) (c : Block),
    isReceiverOp i = true → exec i s = .next t →
      exec i (s.onBlock blk (Block.withSenderOf c)) = .next (t.onBlock blk (Block.withSenderOf c))

/-- R284: no rule of the sender half reads the receiver session. With any other receiver session (RXBUF and DELIVERED
with it) on either block, an operation of the sender half ends in the same state but for that session. -/
def Obligations.SenderDoesNotReadTheReceiver : Prop :=
  ∀ (i : Instr) (blk : BlockId) (s t : State) (c : Block),
    isSenderOp i = true → exec i s = .next t →
      exec i (s.onBlock blk (Block.withReceiverOf c)) = .next (t.onBlock blk (Block.withReceiverOf c))

/-- R220 (f), R37: a sender leaves AWAITING_ACK only by a matching ACK, by an expiry with the budget spent, by a cancel or
by a reset, and the timer is then at 0. -/
def Obligations.AwaitingAckIsLeftInFourWays : Prop :=
  ∀ (i : Instr) (s t : State) (blk : BlockId) (b b' : Block),
    exec i s = .next t → s.block blk = b → t.block blk = b' →
    b.txState = .awaitingAck → b'.txState ≠ .awaitingAck →
      b'.timerRem = 0 ∧ b'.pendingValid = false ∧
      ((b'.txState = .idle ∧ b'.nextSeq = b.nextSeq + 1 ∧ b'.counters.matchAck = b.counters.matchAck + 1) ∨
       (b'.txState = .failed ∧ b'.failCause = .retryExhausted ∧ b.maxRetries.toNat ≤ b.retriesUsed.toNat ∧
          b'.retriesUsed = b.retriesUsed) ∨
       (b'.txState = .failed ∧ b'.failCause = .cancelled ∧ b'.cmdStatus = 0x00000400) ∨
       (b'.txState = .idle ∧ b'.nextSeq = 0 ∧ b'.txq = [] ∧ b'.evq = [] ∧
          (b'.cmdStatus = 0 ∨ b'.cmdStatus = 0x00000900)))

/-- R33, R220 (d), (e): NEXT_SEQ changes only to 0, with a fresh idle session, or by exactly 1 for a matched ACK. -/
def Obligations.NextSeqMovesByOnePerMatchedAck : Prop :=
  ∀ (i : Instr) (s t : State) (blk : BlockId) (b b' : Block),
    exec i s = .next t → s.block blk = b → t.block blk = b' →
      b'.nextSeq = b.nextSeq ∨
      (b'.nextSeq = 0 ∧ b'.txState = .idle ∧ b'.pendingValid = false) ∨
      (b'.nextSeq = b.nextSeq + 1 ∧ b.txState = .awaitingAck ∧ b'.txState = .idle ∧
        b'.counters.matchAck = b.counters.matchAck + 1)

/-- R51, R241, R250 (b): DELIVERED is append-only. An operation leaves it, empties it with EXP_SEQ = 0, or appends the one
payload whose sequence was expected, and EXP_SEQ moves with it. -/
def Obligations.DeliveredIsAppendOnly : Prop :=
  ∀ (i : Instr) (s t : State) (blk : BlockId) (b b' : Block),
    exec i s = .next t → s.block blk = b → t.block blk = b' →
      (b'.delivered = b.delivered ∧ b'.expSeq = b.expSeq) ∨
      (b'.delivered = [] ∧ b'.expSeq = 0) ∨
      (∃ p, b'.delivered = b.delivered ++ [p] ∧ b'.expSeq = b.expSeq + 1 ∧ b.deliverValid = false ∧
        b'.deliverValid = true ∧ b'.deliverSeq.toNat = b.expSeq.toNat ∧ p.length ≤ b.par.maxPayload)

/-- R50, R121: HOSTFAULT is never cleared, and only an access of another width than 4 bytes, or at an offset that is no
multiple of 4, sets it. -/
def Obligations.HostFaultIsSticky : Prop :=
  ∀ (i : Instr) (s t : State) (blk : BlockId),
    exec i s = .next t →
      ((s.block blk).hostFault = true → (t.block blk).hostFault = true) ∧
      ((s.block blk).hostFault = false → (t.block blk).hostFault = true →
        (∃ width off, i = .hostRead blk width off ∧ (width ≠ 4 ∨ off.toNat % 4 ≠ 0)) ∨
        (∃ width off v, i = .hostWrite blk width off v ∧ (width ≠ 4 ∨ off.toNat % 4 ≠ 0)))

/-- R41, R82, R220 (c): while the sender stays in AWAITING_ACK, the held frame, PENDING_SEQ and PENDING_LEN never change,
whatever operation runs. -/
def Obligations.PendingFrameNeverChanges : Prop :=
  ∀ (i : Instr) (s t : State) (blk : BlockId),
    exec i s = .next t → (s.block blk).txState = .awaitingAck → (t.block blk).txState = .awaitingAck →
      (t.block blk).retx = (s.block blk).retx ∧ (t.block blk).pendingSeq = (s.block blk).pendingSeq ∧
      (t.block blk).pendingLen = (s.block blk).pendingLen ∧ (t.block blk).nextSeq = (s.block blk).nextSeq

/-- R34, R35, R36, D35: PENDING_SEQ, PENDING_LEN and RETRIES_USED keep their values through every operation but TX_SEND, a
retransmission, which adds 1 to RETRIES_USED, and a reset, which sets all three to 0 (R300). That TX_START keeps them too
is the model's choice between R34 to R36 with D35 and R202, whose pseudocode says 0 (log entry 14). -/
def Obligations.PendingRegistersKeepTheirValues : Prop :=
  ∀ (i : Instr) (s t : State) (blk : BlockId) (b b' : Block),
    exec i s = .next t → s.block blk = b → t.block blk = b' →
      (b'.pendingSeq = b.pendingSeq ∧ b'.pendingLen = b.pendingLen ∧
        (b'.retriesUsed = b.retriesUsed ∨
          b.txState = .awaitingAck ∧ b'.txState = .awaitingAck ∧
          b'.retriesUsed.toNat = b.retriesUsed.toNat + 1 ∧ b'.retriesUsed.toNat ≤ b.maxRetries.toNat)) ∨
      (b.txState = .idle ∧ b'.txState = .awaitingAck ∧ b'.pendingSeq = b.nextSeq.setWidth 32 ∧
        b'.pendingLen.toNat ≤ b.par.maxPayload ∧ b'.retriesUsed = 0) ∨
      (b'.txState = .idle ∧ b'.nextSeq = 0 ∧ b'.pendingSeq = 0 ∧ b'.pendingLen = 0 ∧ b'.retriesUsed = 0 ∧
        b'.txq = [] ∧ b'.evq = [] ∧ (b'.cmdStatus = 0 ∨ b'.cmdStatus = 0x00000900))

/-- R220 (a): the retry bound. From a packet just sent, with budget r and timeout T, with no frame in flight due (or under
ANY, where TICK is always enabled) and nothing but TICKs, the sender
stays in AWAITING_ACK through tick (r+1)·max(T,1) - 1, having retransmitted once for every max(T,1) ticks, and on tick
(r+1)·max(T,1) it enters FAILED with RETRY_EXHAUSTED after exactly r retransmissions. -/
def Obligations.RetryBoundOverTicks : Prop :=
  ∀ (blk : BlockId) (s : State) (b : Block) (T r : Nat),
    s.block blk = b → s.link.model = .any ∨ (∀ e ∈ s.link.flightAB ++ s.link.flightBA, e.2 ≠ 0) →
    b.txState = .awaitingAck → b.retriesUsed = 0 → b.timerRem = b.timeout →
    T = max b.timeout.toNat 1 → r = b.maxRetries.toNat →
      (∀ n, n < (r + 1) * T → ∃ t, runTicks blk n s = .next t ∧ (t.block blk).txState = .awaitingAck ∧
        (t.block blk).retriesUsed.toNat = n / T ∧
        (t.block blk).counters.retx = b.counters.retx + BitVec.ofNat 32 (n / T)) ∧
      ∃ t, runTicks blk ((r + 1) * T) s = .next t ∧ (t.block blk).txState = .failed ∧
        (t.block blk).failCause = .retryExhausted ∧ (t.block blk).retriesUsed.toNat = r ∧
        (t.block blk).counters.retx = b.counters.retx + BitVec.ofNat 32 r

/-! ### The invariant -/

/-- The invariant of the system (R32, R33, R37, R40 to R44, R47, R49, R98, R206, R220 (c), R250 (a)) holds after reset. -/
def Obligations.ResetMeetsTheInvariant : Prop := State.reset.Inv

/-- Every step keeps the invariant: from every state that meets it, not only from those a run reaches. -/
def Obligations.StepKeepsTheInvariant : Prop := ∀ s t : State, s.Inv → step s = .next t → t.Inv
end

