-- ==== Sys2Proof/Laws/State.lean ====
section
/-!
SUPPORT. Laws/State.lean: for each named update of a block one lemma per field, and the lemmas of replacing one
block of the system, so that no later proof unfolds a record update.
-/

namespace Sys2Proof.Machine

/-! ### One block of the system -/

@[simp] theorem State.block_setBlock_same (s : State) (blk : BlockId) (b : Block) :
    (s.setBlock blk b).block blk = b := by cases blk <;> rfl

theorem State.block_setBlock_other (s : State) {blk blk' : BlockId} (b : Block) (h : blk' ≠ blk) :
    (s.setBlock blk b).block blk' = s.block blk' := by
  cases blk <;> cases blk' <;> first | rfl | exact absurd rfl h

@[simp] theorem State.setBlock_block (s : State) (blk : BlockId) : s.setBlock blk (s.block blk) = s := by
  cases blk <;> rfl

@[simp] theorem State.setBlock_setBlock (s : State) (blk : BlockId) (b b' : Block) :
    (s.setBlock blk b).setBlock blk b' = s.setBlock blk b' := by cases blk <;> rfl

@[simp] theorem State.setBlock_link (s : State) (blk : BlockId) (b : Block) : (s.setBlock blk b).link = s.link := by
  cases blk <;> rfl

@[simp] theorem State.setBlock_offered (s : State) (blk : BlockId) (b : Block) :
    (s.setBlock blk b).offered = s.offered := by cases blk <;> rfl

@[simp] theorem State.setBlock_draws (s : State) (blk : BlockId) (b : Block) :
    (s.setBlock blk b).draws = s.draws := by cases blk <;> rfl

theorem State.onBlock_eq (s : State) (blk : BlockId) (f : Block → Block) :
    s.onBlock blk f = s.setBlock blk (f (s.block blk)) := rfl

/-- Updates of blocks that commute on every block commute on the system. -/
theorem State.onBlock_comm (s : State) (blk blk' : BlockId) (f g : Block → Block) (h : ∀ b, f (g b) = g (f b)) :
    (s.onBlock blk g).onBlock blk' f = (s.onBlock blk' f).onBlock blk g := by
  cases blk <;> cases blk' <;> simp [State.onBlock, State.setBlock, State.block, h]

/-- What an update of blocks leaves of every block, it leaves of the system's. -/
theorem State.onBlock_keeps {α : Type} (s : State) (blk blk' : BlockId) (g : Block → Block) (p : Block → α)
    (h : ∀ b, p (g b) = p b) : p ((s.onBlock blk g).block blk') = p (s.block blk') := by
  cases blk <;> cases blk' <;> first | exact h _ | rfl

/-! ### The link agent -/

@[simp] theorem Link.flight_setFlight_same (l : Link) (d : Direction) (fl : List (Frame × Nat)) :
    (l.setFlight d fl).flight d = fl := by cases d <;> rfl

theorem Link.flight_setFlight_other (l : Link) {d d' : Direction} (fl : List (Frame × Nat)) (h : d' ≠ d) :
    (l.setFlight d fl).flight d' = l.flight d' := by
  cases d <;> cases d' <;> first | rfl | exact absurd rfl h

@[simp] theorem Link.setFlight_model (l : Link) (d : Direction) (fl : List (Frame × Nat)) :
    (l.setFlight d fl).model = l.model := by cases d <;> rfl

@[simp] theorem Link.setFlight_profile (l : Link) (d d' : Direction) (fl : List (Frame × Nat)) :
    (l.setFlight d fl).profile d' = l.profile d' := by cases d <;> cases d' <;> rfl

@[simp] theorem Link.setFlight_choices (l : Link) (d : Direction) (fl : List (Frame × Nat)) :
    (l.setFlight d fl).choices = l.choices := by cases d <;> rfl

@[simp] theorem Link.setFlight_trace (l : Link) (d : Direction) (fl : List (Frame × Nat)) :
    (l.setFlight d fl).trace = l.trace := by cases d <;> rfl

/-! ### One half of a block replaced (R284) -/

section
variable (b c : Block)

@[simp] theorem Block.withSenderOf_par : (Block.withSenderOf c b).par = b.par := rfl
@[simp] theorem Block.withSenderOf_txState : (Block.withSenderOf c b).txState = c.txState := rfl
@[simp] theorem Block.withSenderOf_nextSeq : (Block.withSenderOf c b).nextSeq = c.nextSeq := rfl
@[simp] theorem Block.withSenderOf_pendingValid : (Block.withSenderOf c b).pendingValid = c.pendingValid := rfl
@[simp] theorem Block.withSenderOf_pendingSeq : (Block.withSenderOf c b).pendingSeq = c.pendingSeq := rfl
@[simp] theorem Block.withSenderOf_pendingLen : (Block.withSenderOf c b).pendingLen = c.pendingLen := rfl
@[simp] theorem Block.withSenderOf_retriesUsed : (Block.withSenderOf c b).retriesUsed = c.retriesUsed := rfl
@[simp] theorem Block.withSenderOf_timerRem : (Block.withSenderOf c b).timerRem = c.timerRem := rfl
@[simp] theorem Block.withSenderOf_failCause : (Block.withSenderOf c b).failCause = c.failCause := rfl
@[simp] theorem Block.withSenderOf_expSeq : (Block.withSenderOf c b).expSeq = b.expSeq := rfl
@[simp] theorem Block.withSenderOf_deliverValid : (Block.withSenderOf c b).deliverValid = b.deliverValid := rfl
@[simp] theorem Block.withSenderOf_deliverSeq : (Block.withSenderOf c b).deliverSeq = b.deliverSeq := rfl
@[simp] theorem Block.withSenderOf_deliverLen : (Block.withSenderOf c b).deliverLen = b.deliverLen := rfl
@[simp] theorem Block.withSenderOf_timeout : (Block.withSenderOf c b).timeout = b.timeout := rfl
@[simp] theorem Block.withSenderOf_maxRetries : (Block.withSenderOf c b).maxRetries = b.maxRetries := rfl
@[simp] theorem Block.withSenderOf_irqEnable : (Block.withSenderOf c b).irqEnable = b.irqEnable := rfl
@[simp] theorem Block.withSenderOf_now : (Block.withSenderOf c b).now = b.now := rfl
@[simp] theorem Block.withSenderOf_cmdStatus : (Block.withSenderOf c b).cmdStatus = b.cmdStatus := rfl
@[simp] theorem Block.withSenderOf_irqStatus : (Block.withSenderOf c b).irqStatus = b.irqStatus := rfl
@[simp] theorem Block.withSenderOf_evq : (Block.withSenderOf c b).evq = b.evq := rfl
@[simp] theorem Block.withSenderOf_counters : (Block.withSenderOf c b).counters = b.counters := rfl
@[simp] theorem Block.withSenderOf_txbuf : (Block.withSenderOf c b).txbuf = c.txbuf := rfl
@[simp] theorem Block.withSenderOf_retx : (Block.withSenderOf c b).retx = c.retx := rfl
@[simp] theorem Block.withSenderOf_rxbuf : (Block.withSenderOf c b).rxbuf = b.rxbuf := rfl
@[simp] theorem Block.withSenderOf_txq : (Block.withSenderOf c b).txq = b.txq := rfl
@[simp] theorem Block.withSenderOf_hostFault : (Block.withSenderOf c b).hostFault = b.hostFault := rfl
@[simp] theorem Block.withSenderOf_delivered : (Block.withSenderOf c b).delivered = b.delivered := rfl
@[simp] theorem Block.withSenderOf_readData : (Block.withSenderOf c b).readData = b.readData := rfl

@[simp] theorem Block.withSenderOf_cnt (k : Counter) :
    Block.cnt k (Block.withSenderOf c b) = Block.withSenderOf c (b.cnt k) := rfl
@[simp] theorem Block.withSenderOf_setIrq (bit : IrqBit) :
    Block.setIrq bit (Block.withSenderOf c b) = Block.withSenderOf c (b.setIrq bit) := rfl
@[simp] theorem Block.withSenderOf_pushEvent (code : EventCode) (sub : Byte) (seq : Word) :
    Block.pushEvent code sub seq (Block.withSenderOf c b) = Block.withSenderOf c (b.pushEvent code sub seq) := rfl
@[simp] theorem Block.withSenderOf_emitFrame (f : Frame) :
    Block.emitFrame f (Block.withSenderOf c b) = Block.withSenderOf c (b.emitFrame f) := rfl
@[simp] theorem Block.withSenderOf_record (op : Byte) (r : Option CmdError) :
    Block.record op r (Block.withSenderOf c b) = Block.withSenderOf c (b.record op r) := rfl

@[simp] theorem Block.withReceiverOf_par : (Block.withReceiverOf c b).par = b.par := rfl
@[simp] theorem Block.withReceiverOf_txState : (Block.withReceiverOf c b).txState = b.txState := rfl
@[simp] theorem Block.withReceiverOf_nextSeq : (Block.withReceiverOf c b).nextSeq = b.nextSeq := rfl
@[simp] theorem Block.withReceiverOf_pendingValid : (Block.withReceiverOf c b).pendingValid = b.pendingValid := rfl
@[simp] theorem Block.withReceiverOf_pendingSeq : (Block.withReceiverOf c b).pendingSeq = b.pendingSeq := rfl
@[simp] theorem Block.withReceiverOf_pendingLen : (Block.withReceiverOf c b).pendingLen = b.pendingLen := rfl
@[simp] theorem Block.withReceiverOf_retriesUsed : (Block.withReceiverOf c b).retriesUsed = b.retriesUsed := rfl
@[simp] theorem Block.withReceiverOf_timerRem : (Block.withReceiverOf c b).timerRem = b.timerRem := rfl
@[simp] theorem Block.withReceiverOf_failCause : (Block.withReceiverOf c b).failCause = b.failCause := rfl
@[simp] theorem Block.withReceiverOf_expSeq : (Block.withReceiverOf c b).expSeq = c.expSeq := rfl
@[simp] theorem Block.withReceiverOf_deliverValid : (Block.withReceiverOf c b).deliverValid = c.deliverValid := rfl
@[simp] theorem Block.withReceiverOf_deliverSeq : (Block.withReceiverOf c b).deliverSeq = c.deliverSeq := rfl
@[simp] theorem Block.withReceiverOf_deliverLen : (Block.withReceiverOf c b).deliverLen = c.deliverLen := rfl
@[simp] theorem Block.withReceiverOf_timeout : (Block.withReceiverOf c b).timeout = b.timeout := rfl
@[simp] theorem Block.withReceiverOf_maxRetries : (Block.withReceiverOf c b).maxRetries = b.maxRetries := rfl
@[simp] theorem Block.withReceiverOf_irqEnable : (Block.withReceiverOf c b).irqEnable = b.irqEnable := rfl
@[simp] theorem Block.withReceiverOf_now : (Block.withReceiverOf c b).now = b.now := rfl
@[simp] theorem Block.withReceiverOf_cmdStatus : (Block.withReceiverOf c b).cmdStatus = b.cmdStatus := rfl
@[simp] theorem Block.withReceiverOf_irqStatus : (Block.withReceiverOf c b).irqStatus = b.irqStatus := rfl
@[simp] theorem Block.withReceiverOf_evq : (Block.withReceiverOf c b).evq = b.evq := rfl
@[simp] theorem Block.withReceiverOf_counters : (Block.withReceiverOf c b).counters = b.counters := rfl
@[simp] theorem Block.withReceiverOf_txbuf : (Block.withReceiverOf c b).txbuf = b.txbuf := rfl
@[simp] theorem Block.withReceiverOf_retx : (Block.withReceiverOf c b).retx = b.retx := rfl
@[simp] theorem Block.withReceiverOf_rxbuf : (Block.withReceiverOf c b).rxbuf = c.rxbuf := rfl
@[simp] theorem Block.withReceiverOf_txq : (Block.withReceiverOf c b).txq = b.txq := rfl
@[simp] theorem Block.withReceiverOf_hostFault : (Block.withReceiverOf c b).hostFault = b.hostFault := rfl
@[simp] theorem Block.withReceiverOf_delivered : (Block.withReceiverOf c b).delivered = c.delivered := rfl
@[simp] theorem Block.withReceiverOf_readData : (Block.withReceiverOf c b).readData = b.readData := rfl

@[simp] theorem Block.withReceiverOf_cnt (k : Counter) :
    Block.cnt k (Block.withReceiverOf c b) = Block.withReceiverOf c (b.cnt k) := rfl
@[simp] theorem Block.withReceiverOf_setIrq (bit : IrqBit) :
    Block.setIrq bit (Block.withReceiverOf c b) = Block.withReceiverOf c (b.setIrq bit) := rfl
@[simp] theorem Block.withReceiverOf_pushEvent (code : EventCode) (sub : Byte) (seq : Word) :
    Block.pushEvent code sub seq (Block.withReceiverOf c b) = Block.withReceiverOf c (b.pushEvent code sub seq) := rfl
@[simp] theorem Block.withReceiverOf_emitFrame (f : Frame) :
    Block.emitFrame f (Block.withReceiverOf c b) = Block.withReceiverOf c (b.emitFrame f) := rfl
@[simp] theorem Block.withReceiverOf_record (op : Byte) (r : Option CmdError) :
    Block.record op r (Block.withReceiverOf c b) = Block.withReceiverOf c (b.record op r) := rfl

end

/-! ### The named updates of a block -/

section
variable (b : Block)

@[simp] theorem Block.cnt_par (c : Counter) : (b.cnt c).par = b.par := rfl
@[simp] theorem Block.cnt_txState (c : Counter) : (b.cnt c).txState = b.txState := rfl
@[simp] theorem Block.cnt_nextSeq (c : Counter) : (b.cnt c).nextSeq = b.nextSeq := rfl
@[simp] theorem Block.cnt_pendingValid (c : Counter) : (b.cnt c).pendingValid = b.pendingValid := rfl
@[simp] theorem Block.cnt_pendingSeq (c : Counter) : (b.cnt c).pendingSeq = b.pendingSeq := rfl
@[simp] theorem Block.cnt_pendingLen (c : Counter) : (b.cnt c).pendingLen = b.pendingLen := rfl
@[simp] theorem Block.cnt_retriesUsed (c : Counter) : (b.cnt c).retriesUsed = b.retriesUsed := rfl
@[simp] theorem Block.cnt_timerRem (c : Counter) : (b.cnt c).timerRem = b.timerRem := rfl
@[simp] theorem Block.cnt_failCause (c : Counter) : (b.cnt c).failCause = b.failCause := rfl
@[simp] theorem Block.cnt_expSeq (c : Counter) : (b.cnt c).expSeq = b.expSeq := rfl
@[simp] theorem Block.cnt_deliverValid (c : Counter) : (b.cnt c).deliverValid = b.deliverValid := rfl
@[simp] theorem Block.cnt_deliverSeq (c : Counter) : (b.cnt c).deliverSeq = b.deliverSeq := rfl
@[simp] theorem Block.cnt_deliverLen (c : Counter) : (b.cnt c).deliverLen = b.deliverLen := rfl
@[simp] theorem Block.cnt_timeout (c : Counter) : (b.cnt c).timeout = b.timeout := rfl
@[simp] theorem Block.cnt_maxRetries (c : Counter) : (b.cnt c).maxRetries = b.maxRetries := rfl
@[simp] theorem Block.cnt_irqEnable (c : Counter) : (b.cnt c).irqEnable = b.irqEnable := rfl
@[simp] theorem Block.cnt_now (c : Counter) : (b.cnt c).now = b.now := rfl
@[simp] theorem Block.cnt_cmdStatus (c : Counter) : (b.cnt c).cmdStatus = b.cmdStatus := rfl
@[simp] theorem Block.cnt_irqStatus (c : Counter) : (b.cnt c).irqStatus = b.irqStatus := rfl
@[simp] theorem Block.cnt_evq (c : Counter) : (b.cnt c).evq = b.evq := rfl
@[simp] theorem Block.cnt_counters (c : Counter) : (b.cnt c).counters = b.counters.bump c := rfl
@[simp] theorem Block.cnt_txbuf (c : Counter) : (b.cnt c).txbuf = b.txbuf := rfl
@[simp] theorem Block.cnt_retx (c : Counter) : (b.cnt c).retx = b.retx := rfl
@[simp] theorem Block.cnt_rxbuf (c : Counter) : (b.cnt c).rxbuf = b.rxbuf := rfl
@[simp] theorem Block.cnt_txq (c : Counter) : (b.cnt c).txq = b.txq := rfl
@[simp] theorem Block.cnt_hostFault (c : Counter) : (b.cnt c).hostFault = b.hostFault := rfl
@[simp] theorem Block.cnt_delivered (c : Counter) : (b.cnt c).delivered = b.delivered := rfl
@[simp] theorem Block.cnt_readData (c : Counter) : (b.cnt c).readData = b.readData := rfl

@[simp] theorem Block.setIrq_par (bit : IrqBit) : (b.setIrq bit).par = b.par := rfl
@[simp] theorem Block.setIrq_txState (bit : IrqBit) : (b.setIrq bit).txState = b.txState := rfl
@[simp] theorem Block.setIrq_nextSeq (bit : IrqBit) : (b.setIrq bit).nextSeq = b.nextSeq := rfl
@[simp] theorem Block.setIrq_pendingValid (bit : IrqBit) : (b.setIrq bit).pendingValid = b.pendingValid := rfl
@[simp] theorem Block.setIrq_pendingSeq (bit : IrqBit) : (b.setIrq bit).pendingSeq = b.pendingSeq := rfl
@[simp] theorem Block.setIrq_pendingLen (bit : IrqBit) : (b.setIrq bit).pendingLen = b.pendingLen := rfl
@[simp] theorem Block.setIrq_retriesUsed (bit : IrqBit) : (b.setIrq bit).retriesUsed = b.retriesUsed := rfl
@[simp] theorem Block.setIrq_timerRem (bit : IrqBit) : (b.setIrq bit).timerRem = b.timerRem := rfl
@[simp] theorem Block.setIrq_failCause (bit : IrqBit) : (b.setIrq bit).failCause = b.failCause := rfl
@[simp] theorem Block.setIrq_expSeq (bit : IrqBit) : (b.setIrq bit).expSeq = b.expSeq := rfl
@[simp] theorem Block.setIrq_deliverValid (bit : IrqBit) : (b.setIrq bit).deliverValid = b.deliverValid := rfl
@[simp] theorem Block.setIrq_deliverSeq (bit : IrqBit) : (b.setIrq bit).deliverSeq = b.deliverSeq := rfl
@[simp] theorem Block.setIrq_deliverLen (bit : IrqBit) : (b.setIrq bit).deliverLen = b.deliverLen := rfl
@[simp] theorem Block.setIrq_timeout (bit : IrqBit) : (b.setIrq bit).timeout = b.timeout := rfl
@[simp] theorem Block.setIrq_maxRetries (bit : IrqBit) : (b.setIrq bit).maxRetries = b.maxRetries := rfl
@[simp] theorem Block.setIrq_irqEnable (bit : IrqBit) : (b.setIrq bit).irqEnable = b.irqEnable := rfl
@[simp] theorem Block.setIrq_now (bit : IrqBit) : (b.setIrq bit).now = b.now := rfl
@[simp] theorem Block.setIrq_cmdStatus (bit : IrqBit) : (b.setIrq bit).cmdStatus = b.cmdStatus := rfl
@[simp] theorem Block.setIrq_irqStatus (bit : IrqBit) : (b.setIrq bit).irqStatus = irqSet bit b.irqStatus := rfl
@[simp] theorem Block.setIrq_evq (bit : IrqBit) : (b.setIrq bit).evq = b.evq := rfl
@[simp] theorem Block.setIrq_counters (bit : IrqBit) : (b.setIrq bit).counters = b.counters := rfl
@[simp] theorem Block.setIrq_txbuf (bit : IrqBit) : (b.setIrq bit).txbuf = b.txbuf := rfl
@[simp] theorem Block.setIrq_retx (bit : IrqBit) : (b.setIrq bit).retx = b.retx := rfl
@[simp] theorem Block.setIrq_rxbuf (bit : IrqBit) : (b.setIrq bit).rxbuf = b.rxbuf := rfl
@[simp] theorem Block.setIrq_txq (bit : IrqBit) : (b.setIrq bit).txq = b.txq := rfl
@[simp] theorem Block.setIrq_hostFault (bit : IrqBit) : (b.setIrq bit).hostFault = b.hostFault := rfl
@[simp] theorem Block.setIrq_delivered (bit : IrqBit) : (b.setIrq bit).delivered = b.delivered := rfl
@[simp] theorem Block.setIrq_readData (bit : IrqBit) : (b.setIrq bit).readData = b.readData := rfl

@[simp] theorem Block.pushEvent_par (code : EventCode) (sub : Byte) (seq : Word) :
    (b.pushEvent code sub seq).par = b.par := rfl
@[simp] theorem Block.pushEvent_txState (code : EventCode) (sub : Byte) (seq : Word) :
    (b.pushEvent code sub seq).txState = b.txState := rfl
@[simp] theorem Block.pushEvent_nextSeq (code : EventCode) (sub : Byte) (seq : Word) :
    (b.pushEvent code sub seq).nextSeq = b.nextSeq := rfl
@[simp] theorem Block.pushEvent_pendingValid (code : EventCode) (sub : Byte) (seq : Word) :
    (b.pushEvent code sub seq).pendingValid = b.pendingValid := rfl
@[simp] theorem Block.pushEvent_pendingSeq (code : EventCode) (sub : Byte) (seq : Word) :
    (b.pushEvent code sub seq).pendingSeq = b.pendingSeq := rfl
@[simp] theorem Block.pushEvent_pendingLen (code : EventCode) (sub : Byte) (seq : Word) :
    (b.pushEvent code sub seq).pendingLen = b.pendingLen := rfl
@[simp] theorem Block.pushEvent_retriesUsed (code : EventCode) (sub : Byte) (seq : Word) :
    (b.pushEvent code sub seq).retriesUsed = b.retriesUsed := rfl
@[simp] theorem Block.pushEvent_timerRem (code : EventCode) (sub : Byte) (seq : Word) :
    (b.pushEvent code sub seq).timerRem = b.timerRem := rfl
@[simp] theorem Block.pushEvent_failCause (code : EventCode) (sub : Byte) (seq : Word) :
    (b.pushEvent code sub seq).failCause = b.failCause := rfl
@[simp] theorem Block.pushEvent_expSeq (code : EventCode) (sub : Byte) (seq : Word) :
    (b.pushEvent code sub seq).expSeq = b.expSeq := rfl
@[simp] theorem Block.pushEvent_deliverValid (code : EventCode) (sub : Byte) (seq : Word) :
    (b.pushEvent code sub seq).deliverValid = b.deliverValid := rfl
@[simp] theorem Block.pushEvent_deliverSeq (code : EventCode) (sub : Byte) (seq : Word) :
    (b.pushEvent code sub seq).deliverSeq = b.deliverSeq := rfl
@[simp] theorem Block.pushEvent_deliverLen (code : EventCode) (sub : Byte) (seq : Word) :
    (b.pushEvent code sub seq).deliverLen = b.deliverLen := rfl
@[simp] theorem Block.pushEvent_timeout (code : EventCode) (sub : Byte) (seq : Word) :
    (b.pushEvent code sub seq).timeout = b.timeout := rfl
@[simp] theorem Block.pushEvent_maxRetries (code : EventCode) (sub : Byte) (seq : Word) :
    (b.pushEvent code sub seq).maxRetries = b.maxRetries := rfl
@[simp] theorem Block.pushEvent_irqEnable (code : EventCode) (sub : Byte) (seq : Word) :
    (b.pushEvent code sub seq).irqEnable = b.irqEnable := rfl
@[simp] theorem Block.pushEvent_now (code : EventCode) (sub : Byte) (seq : Word) :
    (b.pushEvent code sub seq).now = b.now := rfl
@[simp] theorem Block.pushEvent_cmdStatus (code : EventCode) (sub : Byte) (seq : Word) :
    (b.pushEvent code sub seq).cmdStatus = b.cmdStatus := rfl
@[simp] theorem Block.pushEvent_irqStatus (code : EventCode) (sub : Byte) (seq : Word) :
    (b.pushEvent code sub seq).irqStatus = if b.evqRoom then b.irqStatus else irqSet .evqOverflow b.irqStatus := rfl
@[simp] theorem Block.pushEvent_evq (code : EventCode) (sub : Byte) (seq : Word) :
    (b.pushEvent code sub seq).evq = if b.evqRoom then b.evq ++ [⟨code, sub, seq⟩] else b.evq := rfl
@[simp] theorem Block.pushEvent_counters (code : EventCode) (sub : Byte) (seq : Word) :
    (b.pushEvent code sub seq).counters = if b.evqRoom then b.counters else b.counters.bump .evqOverflow := rfl
@[simp] theorem Block.pushEvent_txbuf (code : EventCode) (sub : Byte) (seq : Word) :
    (b.pushEvent code sub seq).txbuf = b.txbuf := rfl
@[simp] theorem Block.pushEvent_retx (code : EventCode) (sub : Byte) (seq : Word) :
    (b.pushEvent code sub seq).retx = b.retx := rfl
@[simp] theorem Block.pushEvent_rxbuf (code : EventCode) (sub : Byte) (seq : Word) :
    (b.pushEvent code sub seq).rxbuf = b.rxbuf := rfl
@[simp] theorem Block.pushEvent_txq (code : EventCode) (sub : Byte) (seq : Word) :
    (b.pushEvent code sub seq).txq = b.txq := rfl
@[simp] theorem Block.pushEvent_hostFault (code : EventCode) (sub : Byte) (seq : Word) :
    (b.pushEvent code sub seq).hostFault = b.hostFault := rfl
@[simp] theorem Block.pushEvent_delivered (code : EventCode) (sub : Byte) (seq : Word) :
    (b.pushEvent code sub seq).delivered = b.delivered := rfl
@[simp] theorem Block.pushEvent_readData (code : EventCode) (sub : Byte) (seq : Word) :
    (b.pushEvent code sub seq).readData = b.readData := rfl

@[simp] theorem Block.emitFrame_par (f : Frame) : (b.emitFrame f).par = b.par := rfl
@[simp] theorem Block.emitFrame_txState (f : Frame) : (b.emitFrame f).txState = b.txState := rfl
@[simp] theorem Block.emitFrame_nextSeq (f : Frame) : (b.emitFrame f).nextSeq = b.nextSeq := rfl
@[simp] theorem Block.emitFrame_pendingValid (f : Frame) : (b.emitFrame f).pendingValid = b.pendingValid := rfl
@[simp] theorem Block.emitFrame_pendingSeq (f : Frame) : (b.emitFrame f).pendingSeq = b.pendingSeq := rfl
@[simp] theorem Block.emitFrame_pendingLen (f : Frame) : (b.emitFrame f).pendingLen = b.pendingLen := rfl
@[simp] theorem Block.emitFrame_retriesUsed (f : Frame) : (b.emitFrame f).retriesUsed = b.retriesUsed := rfl
@[simp] theorem Block.emitFrame_timerRem (f : Frame) : (b.emitFrame f).timerRem = b.timerRem := rfl
@[simp] theorem Block.emitFrame_failCause (f : Frame) : (b.emitFrame f).failCause = b.failCause := rfl
@[simp] theorem Block.emitFrame_expSeq (f : Frame) : (b.emitFrame f).expSeq = b.expSeq := rfl
@[simp] theorem Block.emitFrame_deliverValid (f : Frame) : (b.emitFrame f).deliverValid = b.deliverValid := rfl
@[simp] theorem Block.emitFrame_deliverSeq (f : Frame) : (b.emitFrame f).deliverSeq = b.deliverSeq := rfl
@[simp] theorem Block.emitFrame_deliverLen (f : Frame) : (b.emitFrame f).deliverLen = b.deliverLen := rfl
@[simp] theorem Block.emitFrame_timeout (f : Frame) : (b.emitFrame f).timeout = b.timeout := rfl
@[simp] theorem Block.emitFrame_maxRetries (f : Frame) : (b.emitFrame f).maxRetries = b.maxRetries := rfl
@[simp] theorem Block.emitFrame_irqEnable (f : Frame) : (b.emitFrame f).irqEnable = b.irqEnable := rfl
@[simp] theorem Block.emitFrame_now (f : Frame) : (b.emitFrame f).now = b.now := rfl
@[simp] theorem Block.emitFrame_cmdStatus (f : Frame) : (b.emitFrame f).cmdStatus = b.cmdStatus := rfl
@[simp] theorem Block.emitFrame_irqStatus (f : Frame) : (b.emitFrame f).irqStatus = b.irqStatus := rfl
@[simp] theorem Block.emitFrame_evq (f : Frame) : (b.emitFrame f).evq = b.evq := rfl
@[simp] theorem Block.emitFrame_counters (f : Frame) :
    (b.emitFrame f).counters = if b.txqRoom then b.counters else b.counters.bump .txqDrop := rfl
@[simp] theorem Block.emitFrame_txbuf (f : Frame) : (b.emitFrame f).txbuf = b.txbuf := rfl
@[simp] theorem Block.emitFrame_retx (f : Frame) : (b.emitFrame f).retx = b.retx := rfl
@[simp] theorem Block.emitFrame_rxbuf (f : Frame) : (b.emitFrame f).rxbuf = b.rxbuf := rfl
@[simp] theorem Block.emitFrame_txq (f : Frame) :
    (b.emitFrame f).txq = if b.txqRoom then b.txq ++ [f] else b.txq := rfl
@[simp] theorem Block.emitFrame_hostFault (f : Frame) : (b.emitFrame f).hostFault = b.hostFault := rfl
@[simp] theorem Block.emitFrame_delivered (f : Frame) : (b.emitFrame f).delivered = b.delivered := rfl
@[simp] theorem Block.emitFrame_readData (f : Frame) : (b.emitFrame f).readData = b.readData := rfl

@[simp] theorem Block.record_par (op : Byte) (result : Option CmdError) : (b.record op result).par = b.par := rfl
@[simp] theorem Block.record_txState (op : Byte) (result : Option CmdError) :
    (b.record op result).txState = b.txState := rfl
@[simp] theorem Block.record_nextSeq (op : Byte) (result : Option CmdError) :
    (b.record op result).nextSeq = b.nextSeq := rfl
@[simp] theorem Block.record_pendingValid (op : Byte) (result : Option CmdError) :
    (b.record op result).pendingValid = b.pendingValid := rfl
@[simp] theorem Block.record_pendingSeq (op : Byte) (result : Option CmdError) :
    (b.record op result).pendingSeq = b.pendingSeq := rfl
@[simp] theorem Block.record_pendingLen (op : Byte) (result : Option CmdError) :
    (b.record op result).pendingLen = b.pendingLen := rfl
@[simp] theorem Block.record_retriesUsed (op : Byte) (result : Option CmdError) :
    (b.record op result).retriesUsed = b.retriesUsed := rfl
@[simp] theorem Block.record_timerRem (op : Byte) (result : Option CmdError) :
    (b.record op result).timerRem = b.timerRem := rfl
@[simp] theorem Block.record_failCause (op : Byte) (result : Option CmdError) :
    (b.record op result).failCause = b.failCause := rfl
@[simp] theorem Block.record_expSeq (op : Byte) (result : Option CmdError) :
    (b.record op result).expSeq = b.expSeq := rfl
@[simp] theorem Block.record_deliverValid (op : Byte) (result : Option CmdError) :
    (b.record op result).deliverValid = b.deliverValid := rfl
@[simp] theorem Block.record_deliverSeq (op : Byte) (result : Option CmdError) :
    (b.record op result).deliverSeq = b.deliverSeq := rfl
@[simp] theorem Block.record_deliverLen (op : Byte) (result : Option CmdError) :
    (b.record op result).deliverLen = b.deliverLen := rfl
@[simp] theorem Block.record_timeout (op : Byte) (result : Option CmdError) :
    (b.record op result).timeout = b.timeout := rfl
@[simp] theorem Block.record_maxRetries (op : Byte) (result : Option CmdError) :
    (b.record op result).maxRetries = b.maxRetries := rfl
@[simp] theorem Block.record_irqEnable (op : Byte) (result : Option CmdError) :
    (b.record op result).irqEnable = b.irqEnable := rfl
@[simp] theorem Block.record_now (op : Byte) (result : Option CmdError) : (b.record op result).now = b.now := rfl
@[simp] theorem Block.record_cmdStatus (op : Byte) (result : Option CmdError) :
    (b.record op result).cmdStatus = cmdStatusWord op result := rfl
@[simp] theorem Block.record_irqStatus (op : Byte) (result : Option CmdError) :
    (b.record op result).irqStatus = if result.isNone then b.irqStatus else irqSet .cmdErr b.irqStatus := rfl
@[simp] theorem Block.record_evq (op : Byte) (result : Option CmdError) : (b.record op result).evq = b.evq := rfl
@[simp] theorem Block.record_counters (op : Byte) (result : Option CmdError) :
    (b.record op result).counters = b.counters := rfl
@[simp] theorem Block.record_txbuf (op : Byte) (result : Option CmdError) :
    (b.record op result).txbuf = b.txbuf := rfl
@[simp] theorem Block.record_retx (op : Byte) (result : Option CmdError) : (b.record op result).retx = b.retx := rfl
@[simp] theorem Block.record_rxbuf (op : Byte) (result : Option CmdError) :
    (b.record op result).rxbuf = b.rxbuf := rfl
@[simp] theorem Block.record_txq (op : Byte) (result : Option CmdError) : (b.record op result).txq = b.txq := rfl
@[simp] theorem Block.record_hostFault (op : Byte) (result : Option CmdError) :
    (b.record op result).hostFault = b.hostFault := rfl
@[simp] theorem Block.record_delivered (op : Byte) (result : Option CmdError) :
    (b.record op result).delivered = b.delivered := rfl
@[simp] theorem Block.record_readData (op : Byte) (result : Option CmdError) :
    (b.record op result).readData = b.readData := rfl

@[simp] theorem Block.raiseHostFault_par : (b.raiseHostFault).par = b.par := rfl
@[simp] theorem Block.raiseHostFault_txState : (b.raiseHostFault).txState = b.txState := rfl
@[simp] theorem Block.raiseHostFault_nextSeq : (b.raiseHostFault).nextSeq = b.nextSeq := rfl
@[simp] theorem Block.raiseHostFault_pendingValid : (b.raiseHostFault).pendingValid = b.pendingValid := rfl
@[simp] theorem Block.raiseHostFault_pendingSeq : (b.raiseHostFault).pendingSeq = b.pendingSeq := rfl
@[simp] theorem Block.raiseHostFault_pendingLen : (b.raiseHostFault).pendingLen = b.pendingLen := rfl
@[simp] theorem Block.raiseHostFault_retriesUsed : (b.raiseHostFault).retriesUsed = b.retriesUsed := rfl
@[simp] theorem Block.raiseHostFault_timerRem : (b.raiseHostFault).timerRem = b.timerRem := rfl
@[simp] theorem Block.raiseHostFault_failCause : (b.raiseHostFault).failCause = b.failCause := rfl
@[simp] theorem Block.raiseHostFault_expSeq : (b.raiseHostFault).expSeq = b.expSeq := rfl
@[simp] theorem Block.raiseHostFault_deliverValid : (b.raiseHostFault).deliverValid = b.deliverValid := rfl
@[simp] theorem Block.raiseHostFault_deliverSeq : (b.raiseHostFault).deliverSeq = b.deliverSeq := rfl
@[simp] theorem Block.raiseHostFault_deliverLen : (b.raiseHostFault).deliverLen = b.deliverLen := rfl
@[simp] theorem Block.raiseHostFault_timeout : (b.raiseHostFault).timeout = b.timeout := rfl
@[simp] theorem Block.raiseHostFault_maxRetries : (b.raiseHostFault).maxRetries = b.maxRetries := rfl
@[simp] theorem Block.raiseHostFault_irqEnable : (b.raiseHostFault).irqEnable = b.irqEnable := rfl
@[simp] theorem Block.raiseHostFault_now : (b.raiseHostFault).now = b.now := rfl
@[simp] theorem Block.raiseHostFault_cmdStatus : (b.raiseHostFault).cmdStatus = b.cmdStatus := rfl
@[simp] theorem Block.raiseHostFault_irqStatus : (b.raiseHostFault).irqStatus = b.irqStatus := rfl
@[simp] theorem Block.raiseHostFault_evq : (b.raiseHostFault).evq = b.evq := rfl
@[simp] theorem Block.raiseHostFault_counters : (b.raiseHostFault).counters = b.counters := rfl
@[simp] theorem Block.raiseHostFault_txbuf : (b.raiseHostFault).txbuf = b.txbuf := rfl
@[simp] theorem Block.raiseHostFault_retx : (b.raiseHostFault).retx = b.retx := rfl
@[simp] theorem Block.raiseHostFault_rxbuf : (b.raiseHostFault).rxbuf = b.rxbuf := rfl
@[simp] theorem Block.raiseHostFault_txq : (b.raiseHostFault).txq = b.txq := rfl
@[simp] theorem Block.raiseHostFault_hostFault : (b.raiseHostFault).hostFault = true := rfl
@[simp] theorem Block.raiseHostFault_delivered : (b.raiseHostFault).delivered = b.delivered := rfl
@[simp] theorem Block.raiseHostFault_readData : (b.raiseHostFault).readData = b.readData := rfl

@[simp] theorem Block.advanceNow_par : (b.advanceNow).par = b.par := rfl
@[simp] theorem Block.advanceNow_txState : (b.advanceNow).txState = b.txState := rfl
@[simp] theorem Block.advanceNow_nextSeq : (b.advanceNow).nextSeq = b.nextSeq := rfl
@[simp] theorem Block.advanceNow_pendingValid : (b.advanceNow).pendingValid = b.pendingValid := rfl
@[simp] theorem Block.advanceNow_pendingSeq : (b.advanceNow).pendingSeq = b.pendingSeq := rfl
@[simp] theorem Block.advanceNow_pendingLen : (b.advanceNow).pendingLen = b.pendingLen := rfl
@[simp] theorem Block.advanceNow_retriesUsed : (b.advanceNow).retriesUsed = b.retriesUsed := rfl
@[simp] theorem Block.advanceNow_timerRem : (b.advanceNow).timerRem = b.timerRem := rfl
@[simp] theorem Block.advanceNow_failCause : (b.advanceNow).failCause = b.failCause := rfl
@[simp] theorem Block.advanceNow_expSeq : (b.advanceNow).expSeq = b.expSeq := rfl
@[simp] theorem Block.advanceNow_deliverValid : (b.advanceNow).deliverValid = b.deliverValid := rfl
@[simp] theorem Block.advanceNow_deliverSeq : (b.advanceNow).deliverSeq = b.deliverSeq := rfl
@[simp] theorem Block.advanceNow_deliverLen : (b.advanceNow).deliverLen = b.deliverLen := rfl
@[simp] theorem Block.advanceNow_timeout : (b.advanceNow).timeout = b.timeout := rfl
@[simp] theorem Block.advanceNow_maxRetries : (b.advanceNow).maxRetries = b.maxRetries := rfl
@[simp] theorem Block.advanceNow_irqEnable : (b.advanceNow).irqEnable = b.irqEnable := rfl
@[simp] theorem Block.advanceNow_now : (b.advanceNow).now = b.now + 1 := rfl
@[simp] theorem Block.advanceNow_cmdStatus : (b.advanceNow).cmdStatus = b.cmdStatus := rfl
@[simp] theorem Block.advanceNow_irqStatus : (b.advanceNow).irqStatus = b.irqStatus := rfl
@[simp] theorem Block.advanceNow_evq : (b.advanceNow).evq = b.evq := rfl
@[simp] theorem Block.advanceNow_counters : (b.advanceNow).counters = b.counters := rfl
@[simp] theorem Block.advanceNow_txbuf : (b.advanceNow).txbuf = b.txbuf := rfl
@[simp] theorem Block.advanceNow_retx : (b.advanceNow).retx = b.retx := rfl
@[simp] theorem Block.advanceNow_rxbuf : (b.advanceNow).rxbuf = b.rxbuf := rfl
@[simp] theorem Block.advanceNow_txq : (b.advanceNow).txq = b.txq := rfl
@[simp] theorem Block.advanceNow_hostFault : (b.advanceNow).hostFault = b.hostFault := rfl
@[simp] theorem Block.advanceNow_delivered : (b.advanceNow).delivered = b.delivered := rfl
@[simp] theorem Block.advanceNow_readData : (b.advanceNow).readData = b.readData := rfl

@[simp] theorem Block.countDown_par : (b.countDown).par = b.par := rfl
@[simp] theorem Block.countDown_txState : (b.countDown).txState = b.txState := rfl
@[simp] theorem Block.countDown_nextSeq : (b.countDown).nextSeq = b.nextSeq := rfl
@[simp] theorem Block.countDown_pendingValid : (b.countDown).pendingValid = b.pendingValid := rfl
@[simp] theorem Block.countDown_pendingSeq : (b.countDown).pendingSeq = b.pendingSeq := rfl
@[simp] theorem Block.countDown_pendingLen : (b.countDown).pendingLen = b.pendingLen := rfl
@[simp] theorem Block.countDown_retriesUsed : (b.countDown).retriesUsed = b.retriesUsed := rfl
@[simp] theorem Block.countDown_timerRem :
    (b.countDown).timerRem = if b.timerRem = 0 then 0 else b.timerRem - 1 := rfl
@[simp] theorem Block.countDown_failCause : (b.countDown).failCause = b.failCause := rfl
@[simp] theorem Block.countDown_expSeq : (b.countDown).expSeq = b.expSeq := rfl
@[simp] theorem Block.countDown_deliverValid : (b.countDown).deliverValid = b.deliverValid := rfl
@[simp] theorem Block.countDown_deliverSeq : (b.countDown).deliverSeq = b.deliverSeq := rfl
@[simp] theorem Block.countDown_deliverLen : (b.countDown).deliverLen = b.deliverLen := rfl
@[simp] theorem Block.countDown_timeout : (b.countDown).timeout = b.timeout := rfl
@[simp] theorem Block.countDown_maxRetries : (b.countDown).maxRetries = b.maxRetries := rfl
@[simp] theorem Block.countDown_irqEnable : (b.countDown).irqEnable = b.irqEnable := rfl
@[simp] theorem Block.countDown_now : (b.countDown).now = b.now := rfl
@[simp] theorem Block.countDown_cmdStatus : (b.countDown).cmdStatus = b.cmdStatus := rfl
@[simp] theorem Block.countDown_irqStatus : (b.countDown).irqStatus = b.irqStatus := rfl
@[simp] theorem Block.countDown_evq : (b.countDown).evq = b.evq := rfl
@[simp] theorem Block.countDown_counters : (b.countDown).counters = b.counters := rfl
@[simp] theorem Block.countDown_txbuf : (b.countDown).txbuf = b.txbuf := rfl
@[simp] theorem Block.countDown_retx : (b.countDown).retx = b.retx := rfl
@[simp] theorem Block.countDown_rxbuf : (b.countDown).rxbuf = b.rxbuf := rfl
@[simp] theorem Block.countDown_txq : (b.countDown).txq = b.txq := rfl
@[simp] theorem Block.countDown_hostFault : (b.countDown).hostFault = b.hostFault := rfl
@[simp] theorem Block.countDown_delivered : (b.countDown).delivered = b.delivered := rfl
@[simp] theorem Block.countDown_readData : (b.countDown).readData = b.readData := rfl

@[simp] theorem Block.holdFrame_par (len : Half) (f : Frame) : (b.holdFrame len f).par = b.par := rfl
@[simp] theorem Block.holdFrame_txState (len : Half) (f : Frame) : (b.holdFrame len f).txState = .awaitingAck := rfl
@[simp] theorem Block.holdFrame_nextSeq (len : Half) (f : Frame) : (b.holdFrame len f).nextSeq = b.nextSeq := rfl
@[simp] theorem Block.holdFrame_pendingValid (len : Half) (f : Frame) : (b.holdFrame len f).pendingValid = true := rfl
@[simp] theorem Block.holdFrame_pendingSeq (len : Half) (f : Frame) :
    (b.holdFrame len f).pendingSeq = b.wireSeq := rfl
@[simp] theorem Block.holdFrame_pendingLen (len : Half) (f : Frame) : (b.holdFrame len f).pendingLen = len := rfl
@[simp] theorem Block.holdFrame_retriesUsed (len : Half) (f : Frame) : (b.holdFrame len f).retriesUsed = 0 := rfl
@[simp] theorem Block.holdFrame_timerRem (len : Half) (f : Frame) : (b.holdFrame len f).timerRem = b.timeout := rfl
@[simp] theorem Block.holdFrame_failCause (len : Half) (f : Frame) :
    (b.holdFrame len f).failCause = b.failCause := rfl
@[simp] theorem Block.holdFrame_expSeq (len : Half) (f : Frame) : (b.holdFrame len f).expSeq = b.expSeq := rfl
@[simp] theorem Block.holdFrame_deliverValid (len : Half) (f : Frame) :
    (b.holdFrame len f).deliverValid = b.deliverValid := rfl
@[simp] theorem Block.holdFrame_deliverSeq (len : Half) (f : Frame) :
    (b.holdFrame len f).deliverSeq = b.deliverSeq := rfl
@[simp] theorem Block.holdFrame_deliverLen (len : Half) (f : Frame) :
    (b.holdFrame len f).deliverLen = b.deliverLen := rfl
@[simp] theorem Block.holdFrame_timeout (len : Half) (f : Frame) : (b.holdFrame len f).timeout = b.timeout := rfl
@[simp] theorem Block.holdFrame_maxRetries (len : Half) (f : Frame) :
    (b.holdFrame len f).maxRetries = b.maxRetries := rfl
@[simp] theorem Block.holdFrame_irqEnable (len : Half) (f : Frame) :
    (b.holdFrame len f).irqEnable = b.irqEnable := rfl
@[simp] theorem Block.holdFrame_now (len : Half) (f : Frame) : (b.holdFrame len f).now = b.now := rfl
@[simp] theorem Block.holdFrame_cmdStatus (len : Half) (f : Frame) :
    (b.holdFrame len f).cmdStatus = b.cmdStatus := rfl
@[simp] theorem Block.holdFrame_irqStatus (len : Half) (f : Frame) :
    (b.holdFrame len f).irqStatus = b.irqStatus := rfl
@[simp] theorem Block.holdFrame_evq (len : Half) (f : Frame) : (b.holdFrame len f).evq = b.evq := rfl
@[simp] theorem Block.holdFrame_counters (len : Half) (f : Frame) : (b.holdFrame len f).counters = b.counters := rfl
@[simp] theorem Block.holdFrame_txbuf (len : Half) (f : Frame) : (b.holdFrame len f).txbuf = b.txbuf := rfl
@[simp] theorem Block.holdFrame_retx (len : Half) (f : Frame) : (b.holdFrame len f).retx = .held f := rfl
@[simp] theorem Block.holdFrame_rxbuf (len : Half) (f : Frame) : (b.holdFrame len f).rxbuf = b.rxbuf := rfl
@[simp] theorem Block.holdFrame_txq (len : Half) (f : Frame) : (b.holdFrame len f).txq = b.txq := rfl
@[simp] theorem Block.holdFrame_hostFault (len : Half) (f : Frame) :
    (b.holdFrame len f).hostFault = b.hostFault := rfl
@[simp] theorem Block.holdFrame_delivered (len : Half) (f : Frame) :
    (b.holdFrame len f).delivered = b.delivered := rfl
@[simp] theorem Block.holdFrame_readData (len : Half) (f : Frame) : (b.holdFrame len f).readData = b.readData := rfl

@[simp] theorem Block.failWith_par (cause : FailCause) : (b.failWith cause).par = b.par := rfl
@[simp] theorem Block.failWith_txState (cause : FailCause) : (b.failWith cause).txState = .failed := rfl
@[simp] theorem Block.failWith_nextSeq (cause : FailCause) : (b.failWith cause).nextSeq = b.nextSeq := rfl
@[simp] theorem Block.failWith_pendingValid (cause : FailCause) : (b.failWith cause).pendingValid = false := rfl
@[simp] theorem Block.failWith_pendingSeq (cause : FailCause) : (b.failWith cause).pendingSeq = b.pendingSeq := rfl
@[simp] theorem Block.failWith_pendingLen (cause : FailCause) : (b.failWith cause).pendingLen = b.pendingLen := rfl
@[simp] theorem Block.failWith_retriesUsed (cause : FailCause) : (b.failWith cause).retriesUsed = b.retriesUsed := rfl
@[simp] theorem Block.failWith_timerRem (cause : FailCause) : (b.failWith cause).timerRem = 0 := rfl
@[simp] theorem Block.failWith_failCause (cause : FailCause) : (b.failWith cause).failCause = cause := rfl
@[simp] theorem Block.failWith_expSeq (cause : FailCause) : (b.failWith cause).expSeq = b.expSeq := rfl
@[simp] theorem Block.failWith_deliverValid (cause : FailCause) :
    (b.failWith cause).deliverValid = b.deliverValid := rfl
@[simp] theorem Block.failWith_deliverSeq (cause : FailCause) : (b.failWith cause).deliverSeq = b.deliverSeq := rfl
@[simp] theorem Block.failWith_deliverLen (cause : FailCause) : (b.failWith cause).deliverLen = b.deliverLen := rfl
@[simp] theorem Block.failWith_timeout (cause : FailCause) : (b.failWith cause).timeout = b.timeout := rfl
@[simp] theorem Block.failWith_maxRetries (cause : FailCause) : (b.failWith cause).maxRetries = b.maxRetries := rfl
@[simp] theorem Block.failWith_irqEnable (cause : FailCause) : (b.failWith cause).irqEnable = b.irqEnable := rfl
@[simp] theorem Block.failWith_now (cause : FailCause) : (b.failWith cause).now = b.now := rfl
@[simp] theorem Block.failWith_cmdStatus (cause : FailCause) : (b.failWith cause).cmdStatus = b.cmdStatus := rfl
@[simp] theorem Block.failWith_irqStatus (cause : FailCause) :
    (b.failWith cause).irqStatus = irqSet .txFailed b.irqStatus := rfl
@[simp] theorem Block.failWith_evq (cause : FailCause) : (b.failWith cause).evq = b.evq := rfl
@[simp] theorem Block.failWith_counters (cause : FailCause) : (b.failWith cause).counters = b.counters := rfl
@[simp] theorem Block.failWith_txbuf (cause : FailCause) : (b.failWith cause).txbuf = b.txbuf := rfl
@[simp] theorem Block.failWith_retx (cause : FailCause) : (b.failWith cause).retx = b.retx := rfl
@[simp] theorem Block.failWith_rxbuf (cause : FailCause) : (b.failWith cause).rxbuf = b.rxbuf := rfl
@[simp] theorem Block.failWith_txq (cause : FailCause) : (b.failWith cause).txq = b.txq := rfl
@[simp] theorem Block.failWith_hostFault (cause : FailCause) : (b.failWith cause).hostFault = b.hostFault := rfl
@[simp] theorem Block.failWith_delivered (cause : FailCause) : (b.failWith cause).delivered = b.delivered := rfl
@[simp] theorem Block.failWith_readData (cause : FailCause) : (b.failWith cause).readData = b.readData := rfl

@[simp] theorem Block.takePayload_par (s : Word) (p : Frame) : (b.takePayload s p).par = b.par := rfl
@[simp] theorem Block.takePayload_txState (s : Word) (p : Frame) : (b.takePayload s p).txState = b.txState := rfl
@[simp] theorem Block.takePayload_nextSeq (s : Word) (p : Frame) : (b.takePayload s p).nextSeq = b.nextSeq := rfl
@[simp] theorem Block.takePayload_pendingValid (s : Word) (p : Frame) :
    (b.takePayload s p).pendingValid = b.pendingValid := rfl
@[simp] theorem Block.takePayload_pendingSeq (s : Word) (p : Frame) :
    (b.takePayload s p).pendingSeq = b.pendingSeq := rfl
@[simp] theorem Block.takePayload_pendingLen (s : Word) (p : Frame) :
    (b.takePayload s p).pendingLen = b.pendingLen := rfl
@[simp] theorem Block.takePayload_retriesUsed (s : Word) (p : Frame) :
    (b.takePayload s p).retriesUsed = b.retriesUsed := rfl
@[simp] theorem Block.takePayload_timerRem (s : Word) (p : Frame) : (b.takePayload s p).timerRem = b.timerRem := rfl
@[simp] theorem Block.takePayload_failCause (s : Word) (p : Frame) :
    (b.takePayload s p).failCause = b.failCause := rfl
@[simp] theorem Block.takePayload_expSeq (s : Word) (p : Frame) : (b.takePayload s p).expSeq = b.expSeq + 1 := rfl
@[simp] theorem Block.takePayload_deliverValid (s : Word) (p : Frame) : (b.takePayload s p).deliverValid = true := rfl
@[simp] theorem Block.takePayload_deliverSeq (s : Word) (p : Frame) : (b.takePayload s p).deliverSeq = s := rfl
@[simp] theorem Block.takePayload_deliverLen (s : Word) (p : Frame) :
    (b.takePayload s p).deliverLen = BitVec.ofNat 16 p.length := rfl
@[simp] theorem Block.takePayload_timeout (s : Word) (p : Frame) : (b.takePayload s p).timeout = b.timeout := rfl
@[simp] theorem Block.takePayload_maxRetries (s : Word) (p : Frame) :
    (b.takePayload s p).maxRetries = b.maxRetries := rfl
@[simp] theorem Block.takePayload_irqEnable (s : Word) (p : Frame) :
    (b.takePayload s p).irqEnable = b.irqEnable := rfl
@[simp] theorem Block.takePayload_now (s : Word) (p : Frame) : (b.takePayload s p).now = b.now := rfl
@[simp] theorem Block.takePayload_cmdStatus (s : Word) (p : Frame) :
    (b.takePayload s p).cmdStatus = b.cmdStatus := rfl
@[simp] theorem Block.takePayload_irqStatus (s : Word) (p : Frame) :
    (b.takePayload s p).irqStatus = b.irqStatus := rfl
@[simp] theorem Block.takePayload_evq (s : Word) (p : Frame) : (b.takePayload s p).evq = b.evq := rfl
@[simp] theorem Block.takePayload_counters (s : Word) (p : Frame) : (b.takePayload s p).counters = b.counters := rfl
@[simp] theorem Block.takePayload_txbuf (s : Word) (p : Frame) : (b.takePayload s p).txbuf = b.txbuf := rfl
@[simp] theorem Block.takePayload_retx (s : Word) (p : Frame) : (b.takePayload s p).retx = b.retx := rfl
@[simp] theorem Block.takePayload_rxbuf (s : Word) (p : Frame) :
    (b.takePayload s p).rxbuf = Memory.storeBelow b.par.maxPayload 0 p b.rxbuf := rfl
@[simp] theorem Block.takePayload_txq (s : Word) (p : Frame) : (b.takePayload s p).txq = b.txq := rfl
@[simp] theorem Block.takePayload_hostFault (s : Word) (p : Frame) :
    (b.takePayload s p).hostFault = b.hostFault := rfl
@[simp] theorem Block.takePayload_delivered (s : Word) (p : Frame) :
    (b.takePayload s p).delivered = b.delivered ++ [p] := rfl
@[simp] theorem Block.takePayload_readData (s : Word) (p : Frame) : (b.takePayload s p).readData = b.readData := rfl

end

end Sys2Proof.Machine
end

