-- ==== Sys2Proof/Laws/Memory.lean ====
section
/-!
SUPPORT. Laws/Memory.lean: the laws of the buffers: a store is read back and leaves every other byte alone, and
every buffer operation keeps the canonical form.
-/

namespace Sys2Proof.Machine

theorem Memory.load?_store (i k : Nat) (x : Byte) (m : Memory) :
    Memory.load? (Memory.store i x m) k = if k = i then some x else Memory.load? m k := by
  induction m with
  | nil => simp [Memory.store, Memory.load?]
  | cons c rest ih =>
    obtain ⟨j, y⟩ := c
    simp only [Memory.store]
    split
    · simp [Memory.load?]
    · split
      · subst i; simp only [Memory.load?]; split <;> simp_all
      · simp only [Memory.load?, ih]; split <;> split <;> first | rfl | omega

theorem Memory.load?_storeBelow (limit : Nat) (xs : List Byte) (i k : Nat) (m : Memory) :
    Memory.load? (Memory.storeBelow limit i xs m) k =
      if i ≤ k ∧ k < i + xs.length ∧ k < limit then xs[k - i]? else Memory.load? m k := by
  induction xs generalizing i m with
  | nil => simp [Memory.storeBelow]; omega
  | cons x xs ih =>
    simp only [Memory.storeBelow, ih, List.length_cons]
    by_cases hk : k = i
    · subst hk
      by_cases hl : k < limit <;> simp [hl, Memory.load?_store]
    · have hload : Memory.load? (if i < limit then Memory.store i x m else m) k = Memory.load? m k := by
        split <;> simp [Memory.load?_store, hk]
      rw [hload]
      by_cases hlt : i + 1 ≤ k
      · have : k - i = (k - (i + 1)) + 1 := by omega
        simp only [this, List.getElem?_cons_succ]
        congr 1
        simp only [eq_iff_iff]; omega
      · rw [if_neg (by omega), if_neg (by omega)]

/-- The first index of a stored buffer is the old one or the new one. -/
theorem Memory.head_store (i : Nat) (x : Byte) (m : Memory) (c : Host.Cell) (h : (Memory.store i x m).head? = some c) :
    c.1 = i ∨ m.head? = some c := by
  cases m with
  | nil => simp [Memory.store] at h; exact .inl (by rw [← h])
  | cons d rest =>
    obtain ⟨j, y⟩ := d
    simp only [Memory.store] at h
    split at h
    · simp at h; exact .inl (by rw [← h])
    · split at h <;> simp at h
      · exact .inl (by rw [← h])
      · exact .inr (by simp [h])

theorem Memory.wf_cons (c : Host.Cell) (m : Memory) :
    Memory.wf (c :: m) = true ↔ (∀ d, m.head? = some d → c.1 < d.1) ∧ Memory.wf m = true := by
  cases m <;> simp [Memory.wf]

theorem Memory.store_wf (i : Nat) (x : Byte) (m : Memory) (h : Memory.wf m = true) :
    Memory.wf (Memory.store i x m) = true := by
  induction m with
  | nil => rfl
  | cons c rest ih =>
    obtain ⟨j, y⟩ := c
    have hc := (Memory.wf_cons _ _).1 h
    simp only [Memory.store]
    split
    · exact (Memory.wf_cons _ _).2 ⟨fun d hd => by simp at hd; rw [← hd]; assumption, h⟩
    · split
      · subst i; exact (Memory.wf_cons _ _).2 hc
      · refine (Memory.wf_cons _ _).2 ⟨fun d hd => ?_, ih hc.2⟩
        rcases Memory.head_store i x rest d hd with h1 | h1
        · simp only; omega
        · exact hc.1 d h1

theorem Memory.store_bounded (limit i : Nat) (x : Byte) (m : Memory) (hi : i < limit)
    (h : ∀ c ∈ m, c.1 < limit) : ∀ c ∈ Memory.store i x m, c.1 < limit := by
  induction m with
  | nil => simpa [Memory.store] using hi
  | cons c rest ih =>
    obtain ⟨j, y⟩ := c
    have hr : ∀ c ∈ rest, c.1 < limit := fun c hc => h c (List.mem_cons_of_mem _ hc)
    have hj : j < limit := h (j, y) List.mem_cons_self
    simp only [Memory.store]
    split
    · simp only [List.mem_cons]; rintro c (rfl | rfl | hc) <;> first | assumption | exact hr _ hc
    · split
      · simp only [List.mem_cons]; rintro c (rfl | hc) <;> first | assumption | exact hr _ hc
      · simp only [List.mem_cons]; rintro c (rfl | hc) <;> first | assumption | exact ih hr _ hc

theorem Memory.fits_iff (limit : Nat) (m : Memory) :
    Memory.fits limit m = true ↔ Memory.wf m = true ∧ ∀ c ∈ m, c.1 < limit := by
  simp [Memory.fits, List.all_eq_true]

theorem Memory.storeBelow_fits (limit i : Nat) (xs : List Byte) (m : Memory) (h : Memory.fits limit m = true) :
    Memory.fits limit (Memory.storeBelow limit i xs m) = true := by
  induction xs generalizing i m with
  | nil => exact h
  | cons x xs ih =>
    refine ih _ _ ?_
    split
    · rw [Memory.fits_iff] at h ⊢
      exact ⟨Memory.store_wf _ _ _ h.1, Memory.store_bounded _ _ _ _ ‹_› h.2⟩
    · exact h

theorem Memory.reset_fits (limit : Nat) : Memory.fits limit [] = true := rfl

theorem Memory.length_firstBytes (fill : Nat → Byte) (m : Memory) (n : Nat) :
    (Memory.firstBytes fill m n).length = n := by simp [Memory.firstBytes]

end Sys2Proof.Machine
end

