-- ==== Sys2Proof/Laws/Ops.lean ====
section
/-!
SUPPORT. Laws/Ops.lean: one lemma for each shared operation that says once all it can do: counters, events,
frames, the end of a command, the meanings of LINK_RX's cases, the step.
-/

namespace Sys2Proof.Machine

theorem Counters.get_bump (k : Counters) (c c' : Counter) :
    (k.bump c).get c' = if c' = c then k.get c + 1 else k.get c' := by
  cases c <;> cases c' <;> rfl

/-- What `push_event` can do (R285). -/
theorem Block.pushEvent_cases (code : EventCode) (sub : Byte) (seq : Word) (b : Block) :
    (b.evq.length < b.par.evqDepth ∧ b.pushEvent code sub seq = { b with evq := b.evq ++ [⟨code, sub, seq⟩] }) ∨
    (b.par.evqDepth ≤ b.evq.length ∧ b.pushEvent code sub seq = (b.cnt .evqOverflow).setIrq .evqOverflow) := by
  by_cases h : b.evq.length < b.par.evqDepth
  · exact .inl ⟨h, by simp [Block.pushEvent, Block.evqRoom, h]⟩
  · exact .inr ⟨by omega, by simp [Block.pushEvent, Block.evqRoom, h, Block.cnt, Block.setIrq]⟩

/-- What `emit_frame` can do (R76). -/
theorem Block.emitFrame_cases (f : Frame) (b : Block) :
    (b.txq.length < b.par.txqDepth ∧ b.emitFrame f = { b with txq := b.txq ++ [f] }) ∨
    (b.par.txqDepth ≤ b.txq.length ∧ b.emitFrame f = b.cnt .txqDrop) := by
  by_cases h : b.txq.length < b.par.txqDepth
  · exact .inl ⟨h, by simp [Block.emitFrame, Block.txqRoom, h]⟩
  · exact .inr ⟨by omega, by simp [Block.emitFrame, Block.txqRoom, h, Block.cnt]⟩

/-- A queue that is within its depth stays so. -/
theorem Block.pushEvent_evq_le (code : EventCode) (sub : Byte) (seq : Word) (b : Block)
    (h : b.evq.length ≤ b.par.evqDepth) :
    (b.pushEvent code sub seq).evq.length ≤ (b.pushEvent code sub seq).par.evqDepth := by
  rcases b.pushEvent_cases code sub seq with ⟨hr, he⟩ | ⟨_, he⟩
  · simp only [he, List.length_append, List.length_singleton]; omega
  · simpa [he] using h

theorem Block.emitFrame_txq_le (f : Frame) (b : Block) (h : b.txq.length ≤ b.par.txqDepth) :
    (b.emitFrame f).txq.length ≤ (b.emitFrame f).par.txqDepth := by
  rcases b.emitFrame_cases f with ⟨hr, he⟩ | ⟨_, he⟩
  · simp only [he, List.length_append, List.length_singleton]; omega
  · simpa [he] using h

theorem Block.mem_emitFrame_txq {f g : Frame} {b : Block} (h : g ∈ (b.emitFrame f).txq) : g ∈ b.txq ∨ g = f := by
  rcases b.emitFrame_cases f with ⟨_, he⟩ | ⟨_, he⟩
  · simpa [he] using h
  · exact .inl (by simpa [he] using h)

/-- How a command can end (R99, R123, R124): an error, which leaves the block as it was, or its rule's own result. -/
theorem Block.issue_cases {n : Nat} (op : Byte) (rsvd : BitVec n) (run : Block → Except CmdError Block) (b : Block) :
    (rsvd ≠ 0 ∧ b.issue op rsvd run = b.record op (some .reservedBits)) ∨
    (rsvd = 0 ∧ ∃ e, run b = .error e ∧ b.issue op rsvd run = b.record op (some e)) ∨
    (rsvd = 0 ∧ ∃ b', run b = .ok b' ∧ b.issue op rsvd run = b'.record op none) := by
  by_cases h : rsvd = 0
  · cases hr : run b with
    | error e => exact .inr (.inl ⟨h, e, rfl, by simp [Block.issue, Block.finish, h, hr]⟩)
    | ok b' => exact .inr (.inr ⟨h, b', rfl, by simp [Block.issue, Block.finish, h, hr]⟩)
  · exact .inl ⟨h, if_neg h⟩

/-- When TX_SEND's rule completes, and what it leaves (R204). -/
theorem Block.txSend_ok {len : Half} {fill : Nat → Byte} {b b' : Block} (h : b.txSend len fill = .ok b') :
    b.txState = .idle ∧ len.toNat ≤ b.par.maxPayload ∧ b.nextSeq ≠ seqLimit ∧ b' = b.sendFragment len fill := by
  unfold Block.txSend at h
  split at h
  · cases h
  · split at h
    · cases h
    · split at h
      · cases h
      · cases h
        exact ⟨by simp_all, by omega, by assumption, rfl⟩

theorem Block.txStart_ok {b b' : Block} (h : b.txStart = .ok b') :
    b.txState ≠ .awaitingAck ∧ b' = { b with
      txState := .idle, nextSeq := 0, pendingValid := false, timerRem := 0, failCause := .none } := by
  unfold Block.txStart at h
  split at h
  · cases h
  · cases h; exact ⟨by assumption, rfl⟩

theorem Block.txEnd_ok {b b' : Block} (h : b.txEnd = .ok b') :
    b.txState = .idle ∧
      b' = (({ b with txState := .done }).setIrq .txDone).pushEvent .transferDone 0 b.wireSeq := by
  unfold Block.txEnd at h
  split at h
  · cases h
  · cases h; exact ⟨by simp_all, rfl⟩

theorem Block.txCancel_ok {b b' : Block} (h : b.txCancel = .ok b') :
    (b.txState = .idle ∨ b.txState = .awaitingAck) ∧
      b' = (b.failWith .cancelled).pushEvent .transferFailed 2 b.cancelSeq := by
  unfold Block.txCancel at h
  split at h
  · cases h
  · cases h; exact ⟨by tauto, rfl⟩

theorem Block.rxRelease_ok {b b' : Block} (h : b.rxRelease = .ok b') :
    b.deliverValid = true ∧ b' = { b with deliverValid := false } := by
  unfold Block.rxRelease at h
  split at h
  · cases h; exact ⟨by assumption, rfl⟩
  · cases h

theorem Block.evqPop_ok {b b' : Block} (h : b.evqPop = .ok b') :
    ∃ e rest, b.evq = e :: rest ∧ b' = { b with evq := rest } := by
  unfold Block.evqPop at h
  split at h
  · cases h
  · cases h; exact ⟨_, _, by assumption, rfl⟩

/-- A retransmission in AWAITING_ACK keeps the pending packet and uses one retry of the budget (R217). -/
theorem Block.expireRetransmit_pending {b : Block} (h : b.retryLeft = true) :
    b.expireRetransmit.txState = b.txState ∧ b.expireRetransmit.pendingSeq = b.pendingSeq ∧
      b.expireRetransmit.pendingLen = b.pendingLen ∧
      b.expireRetransmit.retriesUsed.toNat = b.retriesUsed.toNat + 1 ∧
      b.expireRetransmit.retriesUsed.toNat ≤ b.maxRetries.toNat := by
  have hlt : b.retriesUsed.toNat < b.maxRetries.toNat := by simpa [Block.retryLeft] using h
  have hadd : b.expireRetransmit.retriesUsed.toNat = b.retriesUsed.toNat + 1 := by
    show (b.retriesUsed + 1).toNat = _
    have := b.maxRetries.isLt
    rw [BitVec.toNat_add, show (1 : Half).toNat = 1 from rfl]
    omega
  exact ⟨rfl, rfl, rfl, hadd, by omega⟩

/-- What a valid frame is like (R155): its payload fits the block. -/
theorem frameDecode_valid {maxPayload : Nat} {f p : Frame} {kind : FrameKind} {seq ts : Word}
    (h : frameDecode maxPayload f = .valid kind seq p ts) :
    p.length ≤ maxPayload ∧ f.length = 13 + p.length ∧ (kind = .ack → p = []) := by
  unfold frameDecode at h
  split at h
  · cases h
  · split at h
    · cases h
    · split at h
      · cases h
      · cases hk : kindOf (byteAt f 4) with
        | none => rw [hk] at h; cases h
        | some k =>
          rw [hk] at h
          simp only at h
          split at h
          · cases h
          · rename_i hack
            unfold checkCrc at h
            split at h
            · cases h
            · cases h
              have hl : (slice f 11 (frameLen f)).length = frameLen f := by
                simp only [slice, List.length_take, List.length_drop]; omega
              refine ⟨by omega, by omega, fun hkind => ?_⟩
              have : frameLen f = 0 := by
                by_contra hne; exact hack ⟨hkind, hne⟩
              simp [slice, this]

/-- The system-level meanings that pass one rule on to a block: what a next state of theirs is. -/
theorem onData_next {blk : BlockId} {f : Frame} {cond : DataClass → Bool} {run : Word → Frame → Block → Block}
    {s t : State} (h : onData blk f cond run s = .next t) :
    ∃ seq p ts, (s.block blk).verdict f = .valid .data seq p ts ∧ cond ((s.block blk).classify seq) = true ∧
      t = s.onBlock blk (run seq p) := by
  unfold onData at h
  cases hv : (s.block blk).verdict f with
  | decodeFail sub => rw [hv] at h; cases h
  | checksumFail sc => rw [hv] at h; cases h
  | valid kind seq p ts =>
    rw [hv] at h
    cases kind with
    | ack => cases h
    | data =>
      simp only at h
      split at h
      · cases h; exact ⟨seq, p, ts, rfl, by assumption, rfl⟩
      · cases h

theorem onAck_next {blk : BlockId} {f : Frame} {cond : Word → Block → Bool} {run : Word → Block → Block}
    {s t : State} (h : onAck blk f cond run s = .next t) :
    ∃ seq p ts, (s.block blk).verdict f = .valid .ack seq p ts ∧ cond seq (s.block blk) = true ∧
      t = s.onBlock blk (run seq) := by
  unfold onAck at h
  cases hv : (s.block blk).verdict f with
  | decodeFail sub => rw [hv] at h; cases h
  | checksumFail sc => rw [hv] at h; cases h
  | valid kind seq p ts =>
    rw [hv] at h
    cases kind with
    | data => cases h
    | ack =>
      simp only at h
      split at h
      · cases h; exact ⟨seq, p, ts, rfl, by assumption, rfl⟩
      · cases h

theorem onExpire_next {blk : BlockId} {cond : Block → Bool} {run : Block → Block} {s t : State}
    (h : onExpire blk cond run s = .next t) :
    s.timeMayPass = true ∧ (s.block blk).txState = .awaitingAck ∧ (s.block blk).timerRem = 0 ∧
      cond (s.block blk) = true ∧ t = s.onBlock blk run := by
  unfold onExpire at h
  split at h
  · cases h
  · split at h
    · rename_i ht hc
      cases h
      simp only [Bool.and_eq_true, Block.expiring, decide_eq_true_eq] at hc
      exact ⟨by simpa using ht, hc.1.1, hc.1.2, hc.2, rfl⟩
    · cases h

/-- What LINK_ADMIT leaves: the blocks, the offered operations and the draws as they were. -/
theorem State.admit_blocks (d : Direction) (f : Frame) (s : State) :
    (s.admitFrame d f).blockA = s.blockA ∧ (s.admitFrame d f).blockB = s.blockB ∧
      (s.admitFrame d f).offered = s.offered ∧ (s.admitFrame d f).draws = s.draws := by
  unfold State.admitFrame; split <;> exact ⟨rfl, rfl, rfl, rfl⟩

/-- What a step can be (R6): idle, or the operation that the oldest record spells. -/
theorem step_next {s t : State} (h : step s = .next t) :
    (s.offered = [] ∧ t = s) ∨
    ∃ r rest i, s.offered = r :: rest ∧ decode r = .ok i ∧ i.wellFormed = true ∧
      exec i (s.afterFetch rest) = .next t := by
  unfold step at h
  split at h
  · cases h; exact .inl ⟨by assumption, rfl⟩
  · split at h
    · cases h
    · split at h
      · exact .inr ⟨_, _, _, by assumption, by assumption, by assumption, h⟩
      · cases h

end Sys2Proof.Machine
end

