-- ==== Sys2Proof/Laws/PerInstr.lean ====
section
/-!
SUPPORT. Laws/PerInstr.lean: statements about each operation as syntax. `RowTag`: the record of an operation begins
with the byte of its row (log entry 1), so no two rows outside the command word share one, and the decoder's choice
by byte 0 is the row's.
-/

namespace Sys2Proof.Laws.RowTag

/-- Byte 0 of the records of an operation's row. -/
def tagOf : Instr → Byte
  | .hostRead _ _ _ => 0x01
  | .hostWrite _ _ _ _ => 0x02
  | .nop _ _ => 0x03
  | .txStart _ _ => 0x03
  | .txSend _ _ _ => 0x03
  | .txEnd _ _ => 0x03
  | .txCancel _ _ => 0x03
  | .rxReset _ _ => 0x03
  | .rxRelease _ _ => 0x03
  | .evqPop _ _ => 0x03
  | .clrCounters _ _ => 0x03
  | .softReset _ _ => 0x03
  | .illegalOpcode _ _ => 0x03
  | .linkRx _ _ => 0x10
  | .rxInvalid _ _ => 0x11
  | .rxAckMatch _ _ => 0x12
  | .rxAckStale _ _ => 0x13
  | .rxData _ _ => 0x14
  | .rxAccept _ _ => 0x15
  | .rxSinkBusy _ _ => 0x16
  | .rxDuplicate _ _ => 0x17
  | .rxFuture _ _ => 0x18
  | .linkTake _ => 0x20
  | .tick _ => 0x21
  | .expireRetransmit _ => 0x22
  | .expireFail _ => 0x23
  | .reset _ => 0x30
  | .linkAdmit _ _ => 0x40
  | .linkDeliver _ _ => 0x41
  | .sysTick => 0x42

/-- The record of an operation begins with its row's byte, and that byte is one the decoder knows. -/
def Statement (i : Instr) : Prop := ∃ rest, encode i = tagOf i :: rest ∧ knownTag (tagOf i).toNat = true

theorem hostRead (blk : BlockId) (width : Byte) (off : Offset) : Statement (.hostRead blk width off) := ⟨_, rfl, rfl⟩

theorem hostWrite (blk : BlockId) (width : Byte) (off : Offset) (data : Word) : Statement (.hostWrite blk width off data) := ⟨_, rfl, rfl⟩

theorem nop (blk : BlockId) (rsvd : BitVec 24) : Statement (.nop blk rsvd) := ⟨_, rfl, rfl⟩

theorem txStart (blk : BlockId) (rsvd : BitVec 24) : Statement (.txStart blk rsvd) := ⟨_, rfl, rfl⟩

theorem txSend (blk : BlockId) (len : Half) (rsvd : Byte) : Statement (.txSend blk len rsvd) := ⟨_, rfl, rfl⟩

theorem txEnd (blk : BlockId) (rsvd : BitVec 24) : Statement (.txEnd blk rsvd) := ⟨_, rfl, rfl⟩

theorem txCancel (blk : BlockId) (rsvd : BitVec 24) : Statement (.txCancel blk rsvd) := ⟨_, rfl, rfl⟩

theorem rxReset (blk : BlockId) (rsvd : BitVec 24) : Statement (.rxReset blk rsvd) := ⟨_, rfl, rfl⟩

theorem rxRelease (blk : BlockId) (rsvd : BitVec 24) : Statement (.rxRelease blk rsvd) := ⟨_, rfl, rfl⟩

theorem evqPop (blk : BlockId) (rsvd : BitVec 24) : Statement (.evqPop blk rsvd) := ⟨_, rfl, rfl⟩

theorem clrCounters (blk : BlockId) (rsvd : BitVec 24) : Statement (.clrCounters blk rsvd) := ⟨_, rfl, rfl⟩

theorem softReset (blk : BlockId) (rsvd : BitVec 24) : Statement (.softReset blk rsvd) := ⟨_, rfl, rfl⟩

theorem illegalOpcode (blk : BlockId) (w : Word) : Statement (.illegalOpcode blk w) := ⟨_, rfl, rfl⟩

theorem linkRx (blk : BlockId) (f : Frame) : Statement (.linkRx blk f) := ⟨_, rfl, rfl⟩

theorem rxInvalid (blk : BlockId) (f : Frame) : Statement (.rxInvalid blk f) := ⟨_, rfl, rfl⟩

theorem rxAckMatch (blk : BlockId) (f : Frame) : Statement (.rxAckMatch blk f) := ⟨_, rfl, rfl⟩

theorem rxAckStale (blk : BlockId) (f : Frame) : Statement (.rxAckStale blk f) := ⟨_, rfl, rfl⟩

theorem rxData (blk : BlockId) (f : Frame) : Statement (.rxData blk f) := ⟨_, rfl, rfl⟩

theorem rxAccept (blk : BlockId) (f : Frame) : Statement (.rxAccept blk f) := ⟨_, rfl, rfl⟩

theorem rxSinkBusy (blk : BlockId) (f : Frame) : Statement (.rxSinkBusy blk f) := ⟨_, rfl, rfl⟩

theorem rxDuplicate (blk : BlockId) (f : Frame) : Statement (.rxDuplicate blk f) := ⟨_, rfl, rfl⟩

theorem rxFuture (blk : BlockId) (f : Frame) : Statement (.rxFuture blk f) := ⟨_, rfl, rfl⟩

theorem linkTake (blk : BlockId) : Statement (.linkTake blk) := ⟨_, rfl, rfl⟩

theorem tick (blk : BlockId) : Statement (.tick blk) := ⟨_, rfl, rfl⟩

theorem expireRetransmit (blk : BlockId) : Statement (.expireRetransmit blk) := ⟨_, rfl, rfl⟩

theorem expireFail (blk : BlockId) : Statement (.expireFail blk) := ⟨_, rfl, rfl⟩

theorem reset (blk : BlockId) : Statement (.reset blk) := ⟨_, rfl, rfl⟩

theorem linkAdmit (d : Direction) (f : Frame) : Statement (.linkAdmit d f) := ⟨_, rfl, rfl⟩

theorem linkDeliver (d : Direction) (f : Frame) : Statement (.linkDeliver d f) := ⟨_, rfl, rfl⟩

theorem sysTick : Statement (.sysTick) := ⟨_, rfl, rfl⟩

end Sys2Proof.Laws.RowTag
end

