-- ==== Sys2Proof/Laws/Step.lean ====
section
/-!
SUPPORT. Laws/Step.lean: what an operation can do to one block, said once: `BlockMove`, the list of everything that
may become of a block, and `exec_blockMove`, which says that exec does nothing else.
-/

namespace Sys2Proof.Machine

/-- What one operation can make of a block `b`, with the conditions under which it does. -/
inductive BlockMove (b : Block) : Block → Prop
  | same : BlockMove b b
  | read (v : Word) : BlockMove b { b with readData := v }
  | faultedRead (v : Word) : BlockMove b { b.raiseHostFault with readData := v }
  | faultedWrite : BlockMove b b.raiseHostFault
  | clearIrq (v : Word) : BlockMove b { b with irqStatus := irqCleared v b.irqStatus }
  | enableIrq (v : Word) : BlockMove b { b with irqEnable := v.extractLsb' 0 5 }
  | setTimeout (v : Word) : BlockMove b { b with timeout := v }
  | setMaxRetries (v : Word) : BlockMove b { b with maxRetries := v.extractLsb' 0 16 }
  | fillTxbuf (j : Nat) (v : Word) :
      BlockMove b { b with txbuf := Memory.storeBelow b.par.maxPayload j (lanesOf v) b.txbuf }
  | failed (op : Byte) (e : CmdError) : BlockMove b (b.record op (some e))
  | nop : BlockMove b (b.record 0x00 none)
  | txStart (b' : Block) : b.txStart = .ok b' → BlockMove b (b'.record 0x01 none)
  | txSend (len : Half) (fill : Nat → Byte) (b' : Block) : b.txSend len fill = .ok b' → BlockMove b (b'.record 0x02 none)
  | txEnd (b' : Block) : b.txEnd = .ok b' → BlockMove b (b'.record 0x03 none)
  | txCancel (b' : Block) : b.txCancel = .ok b' → BlockMove b (b'.record 0x04 none)
  | rxReset : BlockMove b ({ b with expSeq := 0, delivered := [] }.record 0x05 none)
  | rxRelease (b' : Block) : b.rxRelease = .ok b' → BlockMove b (b'.record 0x06 none)
  | evqPop (b' : Block) : b.evqPop = .ok b' → BlockMove b (b'.record 0x07 none)
  | clrCounters : BlockMove b ({ b with counters := Counters.zero }.record 0x08 none)
  | softReset (n : Nat) : BlockMove b ((b.resetAssign n).record 0x09 none)
  | reset (n : Nat) : BlockMove b (b.resetAssign n)
  | linkRx (f : Frame) : BlockMove b (b.linkRx f)
  | invalidStruct (sub : DecodeSub) : BlockMove b (b.rxInvalidStruct sub)
  | invalidCsum (sc : Word) : BlockMove b (b.rxInvalidCsum sc)
  | ackMatch (s : Word) : b.ackMatches s = true → BlockMove b (b.rxAckMatch s)
  | ackStale (s : Word) : b.ackMatches s = false → BlockMove b (b.rxAckStale s)
  | accept (s : Word) (p : Frame) : p.length ≤ b.par.maxPayload → b.classify s = .accept → BlockMove b (b.rxAccept s p)
  | sinkBusy (s : Word) : b.classify s = .sinkBusy → BlockMove b (b.rxSinkBusy s)
  | duplicate (s : Word) : b.classify s = .duplicate → BlockMove b (b.rxDuplicate s)
  | future (s : Word) : b.classify s = .future → BlockMove b (b.rxFuture s)
  | take (f : Frame) (rest : List Frame) : b.txq = f :: rest → BlockMove b { b with txq := rest }
  | tick : BlockMove b b.tick
  | expireRetransmit :
      b.txState = .awaitingAck → b.timerRem = 0 → b.retryLeft = true → BlockMove b b.expireRetransmit
  | expireFail : b.txState = .awaitingAck → b.timerRem = 0 → b.retryLeft = false → BlockMove b b.expireFail

theorem State.onBlock_move {s : State} {blk : BlockId} {f : Block → Block} (h : BlockMove (s.block blk) (f (s.block blk)))
    (blk' : BlockId) : BlockMove (s.block blk') ((s.onBlock blk f).block blk') := by
  by_cases hb : blk' = blk
  · subst hb; simpa [State.onBlock] using h
  · rw [State.onBlock, State.block_setBlock_other s _ hb]; exact .same

/-- What `issue` can make of a block: the command's own completion, or an error. -/
theorem issue_move {n : Nat} {op : Byte} {rsvd : BitVec n} {run : Block → Except CmdError Block} {b : Block}
    (h : ∀ b', run b = .ok b' → BlockMove b (b'.record op none)) : BlockMove b (b.issue op rsvd run) := by
  rcases b.issue_cases op rsvd run with ⟨_, he⟩ | ⟨_, e, _, he⟩ | ⟨_, b', hr, he⟩
  · rw [he]; exact .failed op _
  · rw [he]; exact .failed op e
  · rw [he]; exact h b' hr

/-- COMMAND (R123) makes one of the ten commands' moves, or an error. -/
theorem command_move (w : Word) (fill : Nat → Byte) (n : Nat) (b : Block) : BlockMove b (b.command w fill n) := by
  unfold Block.command
  split <;> rename_i h
  all_goals try have hop : opcodeOf w = BitVec.ofNat 8 (opcodeOf w).toNat := by simp
  · rw [h] at hop; rw [hop]; exact issue_move fun b' hb => by cases hb; exact .nop
  · rw [h] at hop; rw [hop]; exact issue_move fun b' hb => .txStart b' hb
  · rw [h] at hop; rw [hop]; exact issue_move fun b' hb => .txSend _ _ b' hb
  · rw [h] at hop; rw [hop]; exact issue_move fun b' hb => .txEnd b' hb
  · rw [h] at hop; rw [hop]; exact issue_move fun b' hb => .txCancel b' hb
  · rw [h] at hop; rw [hop]; exact issue_move fun b' hb => by cases hb; exact .rxReset
  · rw [h] at hop; rw [hop]; exact issue_move fun b' hb => .rxRelease b' hb
  · rw [h] at hop; rw [hop]; exact issue_move fun b' hb => .evqPop b' hb
  · rw [h] at hop; rw [hop]; exact issue_move fun b' hb => by cases hb; exact .clrCounters
  · rw [h] at hop; rw [hop]; exact issue_move fun b' hb => by cases hb; exact .softReset n
  · exact .failed _ _

/-- HOST_WRITE (R122) stores, runs a command, or records a host fault. -/
theorem hostWrite_move (width : Byte) (off : Offset) (v : Word) (fill : Nat → Byte) (n : Nat) (b : Block) :
    BlockMove b (b.hostWrite width off v fill n) := by
  unfold Block.hostWrite
  split
  · exact .faultedWrite
  · unfold Block.writeWord
    split
    · split
      · rename_i r _
        cases r <;> first
          | exact .same
          | exact command_move v fill n b
          | exact .clearIrq v
          | exact .enableIrq v
          | exact .setTimeout v
          | exact .setMaxRetries v
      · exact .same
    · exact .fillTxbuf _ v
    · exact .same
    · exact .same

/-- RX_DATA (R240) is the row of its class. -/
theorem rxData_move {s : Word} {p : Frame} {b : Block} (hp : p.length ≤ b.par.maxPayload) :
    BlockMove b (b.rxData s p) := by
  unfold Block.rxData
  split <;> rename_i h
  · exact .accept s p hp h
  · exact .sinkBusy s h
  · exact .duplicate s h
  · exact .future s h

/-- What LINK_RX makes of a block, once it has counted the frame (R160). -/
theorem linkRx_cases (f : Frame) (b : Block) : BlockMove (b.cnt .rxFrames) (b.linkRx f) := by
  unfold Block.linkRx Block.resolve
  split
  · exact .invalidStruct _
  · exact .invalidCsum _
  · unfold Block.rxAck
    split
    · exact .ackMatch _ (by assumption)
    · exact .ackStale _ (Bool.not_eq_true _ ▸ ‹¬ _›)
  · rename_i h
    exact rxData_move (by simpa using (frameDecode_valid h).1)

/-- What TICK makes of a block, once NOW has advanced (R215): nothing outside AWAITING_ACK; there, the timer counts
down, and at 0 EXPIRE runs. -/
theorem tick_cases (b : Block) :
    (b.txState ≠ .awaitingAck ∧ b.tick = b.advanceNow) ∨
    (b.txState = .awaitingAck ∧ b.countDown.timerRem ≠ 0 ∧ b.tick = b.advanceNow.countDown) ∨
    (b.txState = .awaitingAck ∧ b.countDown.timerRem = 0 ∧ b.retryLeft = true ∧
      b.tick = b.advanceNow.countDown.expireRetransmit) ∨
    (b.txState = .awaitingAck ∧ b.countDown.timerRem = 0 ∧ b.retryLeft = false ∧
      b.tick = b.advanceNow.countDown.expireFail) := by
  by_cases ha : b.txState = .awaitingAck
  · by_cases ht : b.countDown.timerRem = 0
    · have he : b.advanceNow.countDown.expiring = true := by
        simp only [Block.expiring, Bool.and_eq_true, decide_eq_true_eq]; exact ⟨ha, ht⟩
      have hk : b.tick = b.advanceNow.countDown.expire := by
        unfold Block.tick Block.runTimer; rw [if_pos (by exact ha), if_pos he]
      cases hr : b.retryLeft with
      | true => exact .inr (.inr (.inl ⟨ha, ht, rfl, by rw [hk, Block.expire, if_pos (by exact hr)]⟩))
      | false =>
        exact .inr (.inr (.inr ⟨ha, ht, rfl, by rw [hk, Block.expire, if_neg (by rw [Bool.not_eq_true]; exact hr)]⟩))
    · have he : ¬ b.advanceNow.countDown.expiring = true := by
        simp only [Block.expiring, Bool.and_eq_true, decide_eq_true_eq]; exact fun h => ht h.2
      exact .inr (.inl ⟨ha, ht, by unfold Block.tick Block.runTimer; rw [if_pos (by exact ha), if_neg he]⟩)
  · exact .inl ⟨ha, by unfold Block.tick Block.runTimer; rw [if_neg (by exact ha)]⟩

/-- Whatever operation runs, each block makes one of the moves of `BlockMove`. -/
theorem exec_blockMove {i : Instr} {s t : State} (h : exec i s = .next t) (blk : BlockId) :
    BlockMove (s.block blk) (t.block blk) := by
  cases i with
  | hostRead k width off =>
    cases h
    refine State.onBlock_move ?_ blk
    unfold Block.hostRead; split
    · exact .faultedRead _
    · exact .read _
  | hostWrite k width off v => cases h; exact State.onBlock_move (hostWrite_move _ _ _ _ _ _) blk
  | nop k rsvd => cases h; exact State.onBlock_move (issue_move fun b' hb => by cases hb; exact .nop) blk
  | txStart k rsvd => cases h; exact State.onBlock_move (issue_move fun b' hb => .txStart b' hb) blk
  | txSend k len rsvd => cases h; exact State.onBlock_move (issue_move fun b' hb => .txSend _ _ b' hb) blk
  | txEnd k rsvd => cases h; exact State.onBlock_move (issue_move fun b' hb => .txEnd b' hb) blk
  | txCancel k rsvd => cases h; exact State.onBlock_move (issue_move fun b' hb => .txCancel b' hb) blk
  | rxReset k rsvd => cases h; exact State.onBlock_move (issue_move fun b' hb => by cases hb; exact .rxReset) blk
  | rxRelease k rsvd => cases h; exact State.onBlock_move (issue_move fun b' hb => .rxRelease b' hb) blk
  | evqPop k rsvd => cases h; exact State.onBlock_move (issue_move fun b' hb => .evqPop b' hb) blk
  | clrCounters k rsvd =>
    cases h; exact State.onBlock_move (issue_move fun b' hb => by cases hb; exact .clrCounters) blk
  | softReset k rsvd =>
    cases h; exact State.onBlock_move (issue_move fun b' hb => by cases hb; exact .softReset _) blk
  | illegalOpcode k w => cases h; exact State.onBlock_move (.failed _ _) blk
  | linkRx k f => cases h; exact State.onBlock_move (.linkRx f) blk
  | rxInvalid k f =>
    simp only [exec, execRxInvalid] at h
    split at h
    · cases h; exact State.onBlock_move (.invalidStruct _) blk
    · cases h; exact State.onBlock_move (.invalidCsum _) blk
    · cases h
  | rxAckMatch k f =>
    simp only [exec, execRxAckMatch] at h
    obtain ⟨seq, p, ts, hv, hc, rfl⟩ := onAck_next h
    exact State.onBlock_move (.ackMatch seq hc) blk
  | rxAckStale k f =>
    simp only [exec, execRxAckStale] at h
    obtain ⟨seq, p, ts, hv, hc, rfl⟩ := onAck_next h
    exact State.onBlock_move (.ackStale seq (by simpa using hc)) blk
  | rxData k f =>
    simp only [exec, execRxData] at h
    obtain ⟨seq, p, ts, hv, hc, rfl⟩ := onData_next h
    exact State.onBlock_move (rxData_move (frameDecode_valid hv).1) blk
  | rxAccept k f =>
    simp only [exec, execRxAccept] at h
    obtain ⟨seq, p, ts, hv, hc, rfl⟩ := onData_next h
    exact State.onBlock_move (.accept seq p (frameDecode_valid hv).1 (by simpa using hc)) blk
  | rxSinkBusy k f =>
    simp only [exec, execRxSinkBusy] at h
    obtain ⟨seq, p, ts, hv, hc, rfl⟩ := onData_next h
    exact State.onBlock_move (.sinkBusy seq (by simpa using hc)) blk
  | rxDuplicate k f =>
    simp only [exec, execRxDuplicate] at h
    obtain ⟨seq, p, ts, hv, hc, rfl⟩ := onData_next h
    exact State.onBlock_move (.duplicate seq (by simpa using hc)) blk
  | rxFuture k f =>
    simp only [exec, execRxFuture] at h
    obtain ⟨seq, p, ts, hv, hc, rfl⟩ := onData_next h
    exact State.onBlock_move (.future seq (by simpa using hc)) blk
  | linkTake k =>
    simp only [exec, execLinkTake] at h
    split at h
    · cases h
    · rename_i f rest hq
      cases h
      have hb : ∀ u : State, (u.admitFrame k.outbound f).block blk = u.block blk := fun u => by
        cases blk
        · exact (State.admit_blocks _ _ u).1
        · exact (State.admit_blocks _ _ u).2.1
      rw [hb]
      exact State.onBlock_move (.take f rest hq) blk
  | tick k =>
    simp only [exec, execTick] at h
    split at h
    · cases h; exact State.onBlock_move .tick blk
    · cases h
  | expireRetransmit k =>
    simp only [exec, execExpireRetransmit] at h
    obtain ⟨_, ha, ht, hc, rfl⟩ := onExpire_next h
    exact State.onBlock_move (.expireRetransmit ha ht hc) blk
  | expireFail k =>
    simp only [exec, execExpireFail] at h
    obtain ⟨_, ha, ht, hc, rfl⟩ := onExpire_next h
    exact State.onBlock_move (.expireFail ha ht (by simpa using hc)) blk
  | reset k => cases h; exact State.onBlock_move (.reset _) blk
  | linkAdmit d f =>
    cases h
    cases blk
    · simp only [State.block, (State.admit_blocks d f s).1]; exact .same
    · simp only [State.block, (State.admit_blocks d f s).2.1]; exact .same
  | linkDeliver d f =>
    simp only [exec, execLinkDeliver] at h
    split at h
    · cases h
      have hb : ∀ (l : Link) (k : BlockId), ({ s with link := l } : State).block k = s.block k := fun l k => by
        cases k <;> rfl
      rw [← hb _ blk]
      exact State.onBlock_move (.linkRx f) blk
    · cases h
  | sysTick =>
    simp only [exec, execSysTick] at h
    split at h
    · cases h; cases blk <;> exact .tick
    · cases h

end Sys2Proof.Machine
end

