-- ==== Sys2Proof/Tests/Slice0.lean ====
section
/-!
SUPPORT. Tests/Slice0.lean: small checks of the model. Expected values come from spec/95_test_vectors.md (V, P, W)
or from the examples and tables of the rules named; then, for each statement that has hypotheses, a witness that
meets them, clause by clause.
-/

namespace Sys2Proof.Tests

open Sys2Proof Sys2Proof.Machine

/-! ### Frames and states -/

/-- "Hello". -/
def hello : Frame := [0x48, 0x65, 0x6C, 0x6C, 0x6F]

/-- V1.5: ACK(0, 0). -/
def ack0 : Frame := [0, 0, 0, 0, 2, 0, 0, 0, 0, 0, 0, 0x91, 0x2D]

/-- V1.6: ACK(1, 0). -/
def ack1 : Frame := [0, 0, 0, 0, 2, 0, 0, 0, 1, 0, 0, 0xA6, 0x1D]

/-- V1.14: V1.5 with its last byte changed. -/
def badAck : Frame := [0, 0, 0, 0, 2, 0, 0, 0, 0, 0, 0, 0x91, 0x2C]

/-- V1.9: DATA(0, "", 0). -/
def dataEmpty : Frame := [0, 0, 0, 0, 1, 0, 0, 0, 0, 0, 0, 0x49, 0xAF]

/-- V1.10: DATA(0, "Hello", 0). -/
def dataHello : Frame := [0, 0, 0, 0, 1, 0, 0, 0, 0, 0, 5, 0x48, 0x65, 0x6C, 0x6C, 0x6F, 0x0F, 0x5B]

/-- V1.12: DATA(1, ", RUD", 0). -/
def dataOne : Frame := [0, 0, 0, 0, 1, 0, 0, 0, 1, 0, 5, 0x2C, 0x20, 0x52, 0x55, 0x44, 0xFE, 0x2B]

/-- V1.13e: DATA(0xFFFFFFFF, "", 0). -/
def dataLast : Frame := [0, 0, 0, 0, 1, 0xFF, 0xFF, 0xFF, 0xFF, 0, 0, 0xC3, 0x7F]

/-- The state after reset with block A changed. -/
def bench (f : Block → Block) : State := State.reset.onBlock .A f

/-- A block whose sender waits for ACK(0) of V1.10, its frame still in TXQ (V4.1, with 3 retries). -/
def pending (b : Block) : Block :=
  { b with
    txState := .awaitingAck, pendingValid := true, pendingSeq := 0, pendingLen := 5, timerRem := 1000
    timeout := 1000, maxRetries := 3, retx := .held dataHello, txq := [dataHello] }

/-- A block that has accepted V1.10 and still holds its payload (V5.1). -/
def holding (b : Block) : Block :=
  { b with
    expSeq := 1, deliverValid := true, deliverSeq := 0, deliverLen := 5, delivered := [hello]
    rxbuf := [(0, 0x48), (1, 0x65), (2, 0x6C), (3, 0x6C), (4, 0x6F)] }

/-- The link agent with one frame in flight from A to B. -/
def flying (due : Nat) (model : LinkModel) : State :=
  { State.reset with link := { Link.launch with model := model, flightAB := [(ack0, due)] } }

/-- What block A's `get` is after an operation, if there is a next state. -/
def seenA {α : Type} (get : Block → α) (i : Instr) (s : State) : Option α :=
  match exec i s with
  | .next t => some (get t.blockA)
  | .fault _ => none
  | .refused _ => none

/-- What the link agent's `get` is after an operation. -/
def seenLink {α : Type} (get : Link → α) (i : Instr) (s : State) : Option α :=
  match exec i s with
  | .next t => some (get t.link)
  | .fault _ => none
  | .refused _ => none

/-- The reason of a refusal. -/
def stopOf (o : StepOutcome) : Option Refusal :=
  match o with
  | .next _ => none
  | .fault _ => none
  | .refused r => some r

/-- The events of a block as the vectors write them: (CODE, SUB, SEQ). -/
def events (b : Block) : List (Nat × Nat × Nat) := b.evq.map fun e => (e.code.code.toNat, e.sub.toNat, e.seq.toNat)

/-! ### Well-formedness: an ill-formed term for each check -/

theorem test_illFormed_illegalOpcode : (Instr.illegalOpcode .A 0xFFFFFF09).wellFormed = false := by decide

theorem test_illFormed_ackRows :
    (Instr.rxAckMatch .A dataHello).wellFormed = false ∧ (Instr.rxAckStale .B [0, 0, 0, 0]).wellFormed = false := by
  decide

theorem test_illFormed_dataRows :
    (Instr.rxData .A ack0).wellFormed = false ∧ (Instr.rxAccept .A ack0).wellFormed = false ∧
      (Instr.rxSinkBusy .A []).wellFormed = false ∧ (Instr.rxDuplicate .A ack0).wellFormed = false ∧
      (Instr.rxFuture .A ack0).wellFormed = false := by
  decide

/-! ### Decoding: a record written out for every row -/

/-- R91, format HB; the command rows of R93, with TX_SEND 5 of V4.1 and the error words of V3. -/
theorem test_decode_host_rows :
    decode [0x01, 0x00, 0x04, 0x10, 0x20] = .ok (.hostRead .A 4 0x2010) ∧
    decode [0x02, 0x01, 0x04, 0x00, 0x10, 0x48, 0x65, 0x6C, 0x6C] = .ok (.hostWrite .B 4 0x1000 0x6C6C6548) := by
  decide

theorem test_decode_command_rows :
    decode [0x03, 0, 0x00, 0, 0, 0] = .ok (.nop .A 0) ∧
    decode [0x03, 0, 0x01, 0, 0x01, 0] = .ok (.txStart .A 0x000100) ∧
    decode [0x03, 0, 0x02, 0x01, 0x05, 0] = .ok (.txSend .A 5 1) ∧
    decode [0x03, 1, 0x03, 0, 0, 0] = .ok (.txEnd .B 0) ∧
    decode [0x03, 1, 0x04, 0, 0, 0] = .ok (.txCancel .B 0) ∧
    decode [0x03, 1, 0x05, 0, 0, 0] = .ok (.rxReset .B 0) ∧
    decode [0x03, 1, 0x06, 0, 0, 0] = .ok (.rxRelease .B 0) ∧
    decode [0x03, 0, 0x07, 0, 0, 0x80] = .ok (.evqPop .A 0x800000) ∧
    decode [0x03, 0, 0x08, 0, 0, 0] = .ok (.clrCounters .A 0) ∧
    decode [0x03, 0, 0x09, 0x01, 0, 0] = .ok (.softReset .A 1) ∧
    decode [0x03, 0, 0x0A, 0, 0, 0] = .ok (.illegalOpcode .A 0x0000000A) ∧
    decode [0x03, 0, 0xFF, 1, 2, 3] = .ok (.illegalOpcode .A 0x030201FF) := by
  decide

/-- R95, R96: the frame rows. -/
theorem test_decode_frame_rows :
    decode (0x10 :: 0 :: []) = .ok (.linkRx .A []) ∧
    decode (0x11 :: 1 :: badAck) = .ok (.rxInvalid .B badAck) ∧
    decode (0x12 :: 0 :: ack0) = .ok (.rxAckMatch .A ack0) ∧
    decode (0x13 :: 0 :: ack0) = .ok (.rxAckStale .A ack0) ∧
    decode (0x14 :: 0 :: dataHello) = .ok (.rxData .A dataHello) ∧
    decode (0x15 :: 0 :: dataHello) = .ok (.rxAccept .A dataHello) ∧
    decode (0x16 :: 0 :: dataHello) = .ok (.rxSinkBusy .A dataHello) ∧
    decode (0x17 :: 0 :: dataHello) = .ok (.rxDuplicate .A dataHello) ∧
    decode (0x18 :: 0 :: dataHello) = .ok (.rxFuture .A dataHello) := by
  decide

theorem test_decode_strobe_and_link_rows :
    decode [0x20, 0] = .ok (.linkTake .A) ∧ decode [0x21, 1] = .ok (.tick .B) ∧
    decode [0x22, 0] = .ok (.expireRetransmit .A) ∧ decode [0x23, 0] = .ok (.expireFail .A) ∧
    decode [0x30, 0] = .ok (.reset .A) ∧ decode (0x40 :: 0 :: ack0) = .ok (.linkAdmit .aToB ack0) ∧
    decode (0x41 :: 1 :: ack0) = .ok (.linkDeliver .bToA ack0) ∧ decode [0x42] = .ok .sysTick := by
  decide

/-- What the decoder rejects, by name. -/
theorem test_decode_errors :
    decode [] = .error .emptyRecord ∧ decode [0x04, 0] = .error .unknownTag ∧ decode [0x43] = .error .unknownTag ∧
    decode [0x21, 2] = .error .unknownAgent ∧ decode [0x40, 2] = .error .unknownAgent ∧
    decode [0x21] = .error .badLength ∧ decode [0x21, 0, 0] = .error .badLength ∧
    decode [0x42, 0] = .error .badLength ∧ decode [0x03, 0, 1, 0, 0] = .error .badLength ∧
    decode [0x01, 0, 4, 0, 0x40] = .error .offsetTooWide ∧
    decode (0x12 :: 0 :: dataHello) = .error .wrongKind ∧ decode [0x18, 0, 0, 0, 0, 0] = .error .wrongKind := by
  decide

/-- The table's words (0x00050002 is TX_SEND 5), and the step that runs them. -/
theorem test_decodeTableWord :
    decodeTableWord 32 0x00050002 = some (.txSend .A 5 0) ∧
        decodeTableWord 32 0x0000000A = some (.illegalOpcode .A 0x0A) ∧
    decodeTableWord 8 0x1AA = some (.illegalOpcode .A 0xAA) := by
  decide

theorem test_withFetchWord_runs :
    (match step (State.reset.withFetchWord 32 0x00000003) with
      | .next t => some (t.blockA.txState, t.blockA.cmdStatus, t.offered)
      | .fault _ => none
      | .refused _ => none) = some (.done, 0x00000300, []) := by
  decide

theorem test_step_refuses_by_name :
    stopOf (step { State.reset with offered := [[0x99]] }) = some (.undecodable .unknownTag) := by decide

/-! ### Codec (V1) -/

theorem test_crc_vectors :
    crc16 [0x31, 0x32, 0x33, 0x34, 0x35, 0x36, 0x37, 0x38, 0x39] = 0x29B1 ∧ crc16 [] = 0xFFFF ∧
    crc16 [0x00] = 0xE1F0 ∧ crc16 [0x41] = 0xB915 := by
  decide +kernel

/-- V1.5, V1.8, V1.10, V1.13d. -/
theorem test_encode_vectors :
    frameEncode .ack 0 [] 0 = ack0 ∧
    frameEncode .ack 0xFFFFFFFF [] 0x12345678 =
      [0x12, 0x34, 0x56, 0x78, 0x02, 0xFF, 0xFF, 0xFF, 0xFF, 0x00, 0x00, 0x1B, 0xFD] ∧
    frameEncode .data 0 hello 0 = dataHello ∧
    frameEncode .data 0x01020304 [0x00, 0xFF] 0xAABBCCDD =
      [0xAA, 0xBB, 0xCC, 0xDD, 0x01, 0x01, 0x02, 0x03, 0x04, 0x00, 0x02, 0x00, 0xFF, 0xE3, 0x17] := by
  decide +kernel

/-- V1.14 to V1.24, with V1.23's 1027 zero bytes cut to 2: OVERSIZE comes before the length. -/
theorem test_decode_vectors :
    frameDecode 1024 badAck = .checksumFail 0 ∧
    frameDecode 1024 (dataHello.set 8 1) = .checksumFail 1 ∧
    frameDecode 1024 (dataHello.set 0 0xFF) = .valid .data 0 hello 0xFF000000 ∧
    frameDecode 1024 [] = .decodeFail .short ∧
    frameDecode 1024 (ack0.take 12) = .decodeFail .short ∧
    frameDecode 1024 (ack0.set 4 3) = .decodeFail .badKind ∧
    frameDecode 1024 [0, 0, 0, 0, 2, 0, 0, 0, 0, 0, 1, 0x41, 0xD5, 0x4C] = .decodeFail .ackPayload ∧
    frameDecode 1024 (ack0.set 10 5) = .decodeFail .length ∧
    frameDecode 1024 (dataHello ++ [0]) = .decodeFail .length ∧
    frameDecode 1024 [0, 0, 0, 0, 1, 0, 0, 0, 0, 4, 1, 0, 0] = .decodeFail .oversize ∧
    frameDecode 1024 dataEmpty = .valid .data 0 [] 0 := by
  decide +kernel

/-! ### Host interface (V2, V3) -/

/-- V2.1 to V2.4, V5.1's RX_STATUS. -/
theorem test_hostRead_registers :
    seenA Block.readData (.hostRead .A 4 0x000) State.reset = some 0x52554450 ∧
    seenA Block.readData (.hostRead .A 4 0x004) State.reset = some 0x04100400 ∧
    seenA Block.readData (.hostRead .A 4 0x01C) State.reset = some 0x00070001 ∧
    seenA Block.readData (.hostRead .A 4 0x3000) State.reset = some 0 ∧
    seenA Block.readData (.hostRead .A 4 0x040) (bench holding) = some 2 ∧
    seenA Block.readData (.hostRead .A 4 0x2000) (bench holding) = some 0x6C6C6548 := by
  decide

/-- V2.11, and an access of one byte (U5). -/
theorem test_hostRead_faults :
    seenA Block.hostFault (.hostRead .A 4 0x002) State.reset = some true ∧
    seenA Block.hostFault (.hostRead .A 1 0x000) State.reset = some true ∧
    seenA Block.hostFault (.hostRead .A 4 0x3FFC) State.reset = some false := by
  decide

/-- V2.6 to V2.9. -/
theorem test_hostWrite_stores :
    seenA Block.maxRetries (.hostWrite .A 4 0x03C 0x12345678) State.reset = some 0x5678 ∧
    seenA Block.irqEnable (.hostWrite .A 4 0x014 0xFFFFFFFF) State.reset = some 0x1F ∧
    seenA Block.txbuf (.hostWrite .A 4 0x1000 0x6C6C6548) State.reset =
      some [(0, 0x48), (1, 0x65), (2, 0x6C), (3, 0x6C)] ∧
    seenA Block.irqStatus (.hostWrite .A 4 0x010 0x05) (bench fun b => { b with irqStatus := 0x1F }) = some 0x1A ∧
    seenA Block.txbuf (.hostWrite .A 4 0x1400 1) State.reset = some [] := by
  decide

/-- A write to CMD runs the command (V3.3, V3.4), and a read-only register ignores it (V2.5). -/
theorem test_hostWrite_commands :
    seenA Block.cmdStatus (.hostWrite .A 4 0x008 0x00000100) State.reset = some 0x00000005 ∧
    seenA Block.cmdStatus (.hostWrite .A 4 0x008 0x00010001) State.reset = some 0x00000105 ∧
    seenA id (.hostWrite .A 4 0x000 5) State.reset = some State.reset.blockA := by
  decide

/-- V2.12. -/
theorem test_nop :
    seenA id (.nop .A 0) (bench fun b => { b with cmdStatus := 0x706 }) = some State.reset.blockA := by decide

/-- V2.13. -/
theorem test_clrCounters :
    seenA (fun b => (b.counters, b.cmdStatus)) (.clrCounters .A 0) (bench fun b => b.cnt .retx) =
      some (Counters.zero, 0x00000800) := by
  decide

/-- V2.15, V2.16. -/
theorem test_evqPop :
    seenA (fun b => (b.evqHead, b.evqHeadSeq, b.evqStatus)) (.evqPop .A 0)
      (bench fun b => (b.pushEvent .pktSent 0 0).pushEvent .pktSent 0 1) = some (0x80000001, 1, 1) ∧
    seenA (fun b => (b.cmdStatus, b.irqStatus)) (.evqPop .A 0) State.reset = some (0x00000706, 0x10) := by
  decide

/-- V2.17, V2.18. -/
theorem test_softReset :
    seenA (fun b => b.cmdStatus == 0x00000900 && b.txStatus == 0 && b.timeout == 0 && b.txq == [] &&
        b.irqStatus == 0) (.softReset .A 0)
      (bench pending) = some true ∧
    seenA (fun b => (b.cmdStatus, b.txStatus)) (.softReset .A 1) (bench pending) = some (0x00000905, 5) := by
  decide

/-- V3.1, V3.2. -/
theorem test_illegalOpcode :
    seenA (fun b => (b.cmdStatus, b.irqStatus)) (.illegalOpcode .A 0x0A) State.reset = some (0x00000A01, 0x10) ∧
    seenA Block.cmdStatus (.illegalOpcode .A 0xFF) State.reset = some 0x0000FF01 := by
  decide

/-- R300: HOSTFAULT is unchanged by RESET. -/
theorem test_reset :
    seenA (fun b => (b.txState, b.hostFault, b.txq)) (.reset .A)
      (bench fun b => { pending b with hostFault := true }) = some (.idle, true, []) := by
  decide

/-! ### Sender (V3, V4, V6) -/

/-- V4.9, V3.7, and D35 for PENDING_SEQ, PENDING_LEN and RETRIES_USED. -/
theorem test_txStart :
    seenA (fun b => (b.txStatus, b.nextSeq, b.pendingSeq, b.pendingLen, b.retriesUsed)) (.txStart .A 0)
      (bench fun b => { b with
        txState := .failed, failCause := .cancelled, nextSeq := 3, pendingSeq := 3, pendingLen := 5, retriesUsed := 2 }) =
      some (0, 0, 3, 5, 2) ∧
    seenA Block.cmdStatus (.txStart .A 0) (bench pending) = some 0x00000102 := by
  decide

/-- V4.1: TIMEOUT = 1000, TXBUF = "Hello". -/
theorem test_txSend_hello :
    seenA (fun b => b.txq == [dataHello] && b.txStatus == 5 && b.timerRem == 1000 && b.pendingLen == 5 &&
        b.counters.txData == 1 && events b == [(1, 0, 0)]) (.txSend .A 5 0)
      (bench fun b => { b with
        timeout := 1000, txbuf := [(0, 0x48), (1, 0x65), (2, 0x6C), (3, 0x6C), (4, 0x6F)] }) = some true := by
  decide +kernel

/-- V3.5, V3.9 to V3.11: the order of TX_SEND's errors. -/
theorem test_txSend_errors :
    seenA Block.cmdStatus (.txSend .A 5 1) State.reset = some 0x00000205 ∧
    seenA Block.cmdStatus (.txSend .A 1025 0) State.reset = some 0x00000203 ∧
    seenA Block.cmdStatus (.txSend .A 0 0) (bench fun b => { b with nextSeq := seqLimit }) = some 0x00000204 ∧
    seenA Block.cmdStatus (.txSend .A 1025 0) (bench pending) = some 0x00000202 := by
  decide

/-- V4.3, V4.14. -/
theorem test_txEnd :
    seenA (fun b => (b.txStatus, b.irqStatus, events b)) (.txEnd .A 0) (bench fun b => { b with nextSeq := 3 }) =
      some (2, 1, [(5, 0, 3)]) ∧
    seenA (fun b => (b.txState, events b)) (.txEnd .A 0) (bench fun b => { b with nextSeq := seqLimit }) =
      some (.done, [(5, 0, 0)]) := by
  decide

/-- V4.6 (with PENDING_SEQ = 0), V4.10. -/
theorem test_txCancel :
    seenA (fun b => b.txStatus == 0x23 && b.timerRem == 0 && b.irqStatus == 2 && events b == [(6, 2, 0)] &&
        b.txq == [dataHello]) (.txCancel .A 0) (bench pending) = some true ∧
    seenA (fun b => (b.txStatus, events b)) (.txCancel .A 0) State.reset = some (0x23, [(6, 2, 0)]) := by
  decide

/-- V4.2 and V4.12, the case as a row of its own: CNT_RX_FRAMES is LINK_RX's. -/
theorem test_rxAckMatch :
    seenA (fun b => b.txStatus == 0 && b.nextSeq == 1 && b.timerRem == 0 && b.counters.matchAck == 1 &&
        events b == [(3, 0, 0)]) (.rxAckMatch .A ack0)
      (bench pending) = some true ∧
    seenA (fun b => (b.txStatus, b.nextSeq)) (.rxAckMatch .A
        [0, 0, 0, 0, 2, 0xFF, 0xFF, 0xFF, 0xFF, 0, 0, 0x1B, 0xFD])
      (bench fun b => { pending b with nextSeq := 0xFFFFFFFF, pendingSeq := 0xFFFFFFFF }) =
        some (8, seqLimit) := by
  decide +kernel

/-- W5: ACK(0) with PENDING_SEQ = 1; and V4.8, in FAILED. -/
theorem test_rxAckStale :
    seenA (fun b => b.txStatus == 5 && b.nextSeq == 1 && b.counters.staleAck == 1 && events b == [(4, 1, 0)])
        (.rxAckStale .A ack0)
      (bench fun b => { pending b with nextSeq := 1, pendingSeq := 1 }) = some true ∧
    seenA events (.rxAckStale .A ack0) (bench fun b => { b with txState := .failed }) = some [(4, 3, 0)] := by
  decide +kernel

/-- V6.1, V6.5. -/
theorem test_tick_counts :
    seenA (fun b => (b.timerRem, b.now, events b)) (.tick .A) (bench fun b => { pending b with timerRem := 2 }) =
      some (1, 1, []) ∧
    seenA id (.tick .A) (bench fun b => { b with now := 0xFFFFFFFF }) = some State.reset.blockA := by
  decide

/-- V4.5's first TICK (TIMEOUT = 0), and R218's example. -/
theorem test_tick_expires :
    seenA (fun b => (b.retriesUsed, b.timerRem, b.txState)) (.tick .A)
      (bench fun b => { pending b with timeout := 0, timerRem := 0, maxRetries := 1 }) = some (1, 0, .awaitingAck) ∧
    seenA (fun b => (b.txStatus, b.irqStatus)) (.tick .A)
      (bench fun b => { pending b with timerRem := 1, retriesUsed := 3 }) = some (0x13, 2) := by
  decide

/-- R217: RETX goes out byte for byte; SUB saturates at 255. -/
theorem test_expireRetransmit :
    seenA (fun b => b.txq == [dataHello, dataHello] && b.retriesUsed == 256 && b.timerRem == 1000 &&
        b.counters.retx == 1 && events b == [(2, 255, 0)]) (.expireRetransmit .A)
      (bench fun b => { pending b with timerRem := 0, retriesUsed := 255, maxRetries := 256 }) = some true := by
  decide

/-- R218, with MAX_RETRIES = 0. -/
theorem test_expireFail :
    seenA (fun b => (b.txStatus, events b, b.txq)) (.expireFail .A)
      (bench fun b => { pending b with timerRem := 0, maxRetries := 0 }) = some (0x13, [(6, 1, 0)], [dataHello]) := by
  decide

/-! ### Receiver and link input (V5) -/

/-- V5.1 through LINK_RX; V5.12. -/
theorem test_linkRx :
    seenA (fun b => b.rxStatus == 2 && b.irqStatus == 4 && b.txq == [ack0] && b.counters.rxFrames == 1 &&
        events b == [(7, 0, 0), (10, 0, 0)]) (.linkRx .A dataHello)
      State.reset = some true ∧
    seenA (fun b => b.counters.rxFrames == 1 && b.counters.decodeFail == 1 && events b == [(11, 1, 0)] &&
        b.irqStatus == 0) (.linkRx .A (ack0.take 12))
      State.reset = some true := by
  decide +kernel

/-- R161: the two discard paths. -/
theorem test_rxInvalid :
    seenA (fun b => (b.counters.csumFail, events b, b.txq)) (.rxInvalid .A (dataHello.set 8 1)) State.reset =
      some (1, [(12, 0, 1)], []) ∧
    stopOf (exec (.rxInvalid .A ack0) State.reset) = some .notThisCase := by
  decide +kernel

/-- R240's example: with EXP_SEQ = 1 and RXBUF released, 0 is a duplicate and 1 is accepted. -/
theorem test_rxData :
    seenA (fun b => (b.counters.rxDup, b.expSeq)) (.rxData .A dataHello)
      (bench fun b => { holding b with deliverValid := false }) = some (1, 1) ∧
    seenA (fun b => (b.counters.rxAccept, b.expSeq, b.delivered.length)) (.rxData .A dataOne)
      (bench fun b => { holding b with deliverValid := false }) = some (1, 2, 2) := by
  decide +kernel

/-- V5.1 (the row alone), V5.9's boundary with V1.13e. -/
theorem test_rxAccept :
    seenA (fun b => b.rxbuf == [(0, 0x48), (1, 0x65), (2, 0x6C), (3, 0x6C), (4, 0x6F)] && b.deliverLen == 5 &&
        b.expSeq == 1 && b.delivered == [hello]) (.rxAccept .A dataHello) State.reset = some true ∧
    seenA (fun b => (b.rxStatus, b.expSeq)) (.rxAccept .A dataLast) (bench fun b => { b with expSeq := 0xFFFFFFFF }) =
      some (3, seqLimit) := by
  decide +kernel

/-- V5.2. -/
theorem test_rxSinkBusy :
    seenA (fun b => b.counters.rxSinkBusy == 1 && b.expSeq == 1 && b.txq == [] && events b == [(13, 0, 1)])
        (.rxSinkBusy .A dataOne) (bench holding) = some true := by
  decide +kernel

/-- V5.3; V5.10: every sequence is below 2^32. -/
theorem test_rxDuplicate :
    seenA (fun b => b.counters.rxDup == 1 && b.txq == [ack0] && b.delivered == [hello] &&
        events b == [(8, 0, 0), (10, 0, 0)]) (.rxDuplicate .A dataHello) (bench holding) = some true ∧
    seenA Block.txq (.rxDuplicate .A dataEmpty) (bench fun b => { b with expSeq := seqLimit }) = some [ack0] := by
  decide +kernel

/-- V5.5: unsigned. -/
theorem test_rxFuture :
    seenA (fun b => b.counters.rxFuture == 1 && b.expSeq == 1 && b.txq == [] &&
        events b == [(9, 0, 4294967295)]) (.rxFuture .A dataLast) (bench holding) = some true := by
  decide +kernel

/-- V5.7. -/
theorem test_rxReset :
    seenA (fun b => b.expSeq == 0 && b.delivered == [] && b.rxStatus == 2 && b.deliverLen == 5)
        (.rxReset .A 0) (bench holding) = some true := by
  decide

/-- R249, V3.14. -/
theorem test_rxRelease :
    seenA (fun b => (b.rxStatus, b.deliverLen, b.cmdStatus)) (.rxRelease .A 0) (bench holding) = some (0, 5, 0x600) ∧
    seenA Block.cmdStatus (.rxRelease .A 0) State.reset = some 0x00000606 := by
  decide

/-! ### Link agent (V7) -/

/-- V7.1, with the choice that P1 makes. -/
theorem test_linkTake :
    seenLink Link.flightAB (.linkTake .A)
      { bench pending with link := { Link.launch with choices := [Fate.choice (.pass 0)] } } = some [(dataHello, 0)] ∧
    stopOf (exec (.linkTake .A) State.reset) = some .notEnabled := by
  decide

/-- A link agent whose A to B direction may do anything, with one choice standing. -/
def anyChance (c : LinkChoice) : State :=
  { State.reset with link :=
    { Link.launch with
      profileAB := { loss := .sometimes, corruption := .sometimes, delayMin := 1, delayMax := 3 }
      choices := [c] } }

/-- V7.5's mask on V1.10, byte 11; and a drop. -/
theorem test_linkAdmit :
    seenLink (fun l => (l.flightAB, l.trace)) (.linkAdmit .aToB dataHello) (anyChance (Fate.choice (.corrupt 11 1))) =
      some ([(dataHello.set 11 0x49, 1)], [.corrupted .aToB dataHello]) ∧
    seenLink (fun l => (l.flightAB, l.trace)) (.linkAdmit .aToB dataHello) (anyChance (Fate.choice .drop)) =
      some ([], [.dropped .aToB dataHello]) := by
  decide

/-- V7.4: a due frame arrives; V7.3: one that is not due does not. -/
theorem test_linkDeliver :
    seenLink Link.flightAB (.linkDeliver .aToB ack0) (flying 0 .simulator) = some [] ∧
    stopOf (exec (.linkDeliver .aToB ack0) (flying 1 .simulator)) = some .notEnabled := by
  decide

/-- V7.3, V7.7. -/
theorem test_sysTick :
    seenLink Link.flightAB .sysTick (flying 2 .simulator) = some [(ack0, 1)] ∧
    seenA Block.now .sysTick (flying 2 .simulator) = some 1 ∧
    stopOf (exec .sysTick (flying 0 .simulator)) = some .notEnabled ∧
    stopOf (exec .sysTick (bench pending)) = some .notEnabled := by
  decide

/-- V8.1, V8.2. -/
theorem test_irq :
    ({ State.reset.blockA with irqStatus := 0x04, irqEnable := 0x04 } : Block).irq = true ∧
    ({ State.reset.blockA with irqStatus := 0x04, irqEnable := 0x03 } : Block).irq = false := by
  decide

/-- V2.14, with `P_EVQ_DEPTH` = 2. -/
theorem test_pushEvent_full :
    (fun b : Block => (b.evq.length, b.counters.evqOverflow, b.irqStatus)) (Block.pushEvent .pktSent 0 2
      { State.reset.blockA with
        par := { maxPayload := 1024, evqDepth := 2, txqDepth := 4 }
        evq := [⟨.pktSent, 0, 0⟩, ⟨.pktSent, 0, 1⟩] }) = (2, 1, 8) := by
  decide

/-- R102: `send A, "Hello"` is three operations, the last word padded with 0x00. -/
theorem test_script_send :
    Line.ops State.reset (.send .A hello) =
      [.hostWrite .A 4 0x1000 0x6C6C6548, .hostWrite .A 4 0x1004 0x0000006F, .hostWrite .A 4 0x008 0x00050002] := by
  decide

/-- R102: `deliver B <- f` takes f out of flight where it is due towards B (P4), and is LINK_RX alone elsewhere (P5). -/
theorem test_script_deliver :
    Line.ops (flying 0 .simulator) (.deliver .B ack0) = [.linkDeliver .aToB ack0] ∧
    Line.ops (flying 0 .simulator) (.deliver .A ack0) = [.linkRx .A ack0] ∧
    Line.ops (flying 1 .simulator) (.deliver .B ack0) = [.linkRx .B ack0] := by
  decide

/-! ### Witnesses: for each statement with hypotheses, values that meet them, clause by clause

Where a statement's clauses have the hypotheses of another's (the commands' reserved bits, the verdicts of frames), the
same states serve. -/

theorem witness_DecodeOfEncodeIsIdentity :
    (Instr.illegalOpcode .A 0x0000000A).wellFormed = true ∧ (Instr.illegalOpcode .B 0xFFFFFFFF).wellFormed = true ∧
    (Instr.rxAckMatch .A ack0).wellFormed = true ∧ (Instr.rxFuture .B dataLast).wellFormed = true ∧
    (Instr.hostRead .B 0xFF 0x3FFF).wellFormed = true := by
  decide

theorem witness_EncodeOfDecodeIsIdentity :
    decode [0x02, 1, 0xFF, 0xFF, 0x3F, 0, 0, 0, 0x80] = .ok (.hostWrite .B 0xFF 0x3FFF 0x80000000) ∧
    decode [0x03, 0, 0x02, 0xFF, 0xFF, 0xFF] = .ok (.txSend .A 0xFFFF 0xFF) := by
  decide

theorem witness_CommandWordsFollowTheOpcodeMap :
    (0x00000002 : Word).extractLsb' 0 16 = 0x0002 ∧ (0xFFFF0002 : Word).extractLsb' 0 16 = 0x0002 ∧
    0x0A ≤ ((0x0000000A : Word).extractLsb' 0 8).toNat ∧ 0x0A ≤ ((0xFFFFFFFF : Word).extractLsb' 0 8).toNat := by
  decide

theorem witness_StepRunsTheOfferedOperation :
    (∃ s : State, s.offered = [0x42] :: [] ∧ decode [0x42] = .ok .sysTick ∧ Instr.sysTick.wellFormed = true) ∧
    (∃ s : State, s.offered = [0x99] :: [[0x42]] ∧ decode [0x99] = .error .unknownTag) ∧ State.reset.offered = [] :=
  ⟨⟨{ State.reset with offered := [[0x42]] }, rfl, by decide, rfl⟩,
    ⟨{ State.reset with offered := [[0x99], [0x42]] }, rfl, by decide⟩, rfl⟩

/-- For the round trip, for byte changes and for corruption: the largest payload of the smallest size, and an ACK. -/
theorem witness_codec_statements :
    (1 ≤ 4096 ∧ ([0x78] : Frame).length ≤ 1 ∧ (FrameKind.data = .ack → ([0x78] : Frame) = [])) ∧
    (4096 ≤ 4096 ∧ ([] : Frame).length ≤ 4096 ∧ (FrameKind.ack = .ack → ([] : Frame) = [])) := by
  decide

/-- Bytes 4 and 12 + L, changed; bytes 4, 5 and 11 + L, 12 + L, changed. -/
theorem witness_ByteChangesAreDetected :
    dataHello = frameEncode .data 0 hello 0 ∧
    (4 < dataHello.length ∧ dataHello.set 4 0xFE ≠ dataHello) ∧
    (17 < dataHello.length ∧ dataHello.set 17 0x5A ≠ dataHello) ∧
    (4 + 1 < dataHello.length ∧ (dataHello.set 4 2).set 5 0xFF ≠ dataHello) ∧
    (16 + 1 < dataHello.length ∧ (dataHello.set 16 0x0F).set 17 0 ≠ dataHello) := by
  decide +kernel

/-- Bytes `i` to `i+n-1` of a frame as a number, most significant byte first, as the statement reads them. -/
def num (f : Frame) (i n : Nat) : Nat := ((f.drop i).take n).foldl (fun acc x => 256 * acc + x.toNat) 0

/-- One frame for each check, at its boundary: 12 bytes; LEN = 1025; 13 and 19 bytes with LEN = 5; KIND 0x03 and 0x00;
an ACK with LEN = 1; and the two ends of the checksum test for both kinds. -/
theorem witness_VerifierReportsTheFirstFailingCheck :
    (ack0.take 12).length < 13 ∧
    (1024 < num ([0, 0, 0, 0, 1, 0, 0, 0, 0, 4, 1, 0, 0] : Frame) 9 2) ∧
    (num (ack0.set 10 5) 9 2 ≤ 1024 ∧ (ack0.set 10 5).length ≠ 13 + num (ack0.set 10 5) 9 2) ∧
    (num (ack0.set 4 3) 4 1 ≠ 1 ∧ num (ack0.set 4 3) 4 1 ≠ 2 ∧ num (ack0.set 4 0) 4 1 ≠ 1 ∧
      (ack0.set 4 3).length = 13 + num (ack0.set 4 3) 9 2) ∧
    (num ([0, 0, 0, 0, 2, 0, 0, 0, 0, 0, 1, 0x41, 0xD5, 0x4C] : Frame) 4 1 = 2 ∧
      num ([0, 0, 0, 0, 2, 0, 0, 0, 0, 0, 1, 0x41, 0xD5, 0x4C] : Frame) 9 2 = 1) ∧
    (num badAck 4 1 = 2 ∧ (crc16 ((badAck.drop 4).take 7)).toNat ≠ num badAck 11 2) ∧
    (num ack0 4 1 = 2 ∧ (crc16 ((ack0.drop 4).take 7)).toNat = num ack0 11 2) ∧
    (num dataHello 4 1 = 1 ∧ (crc16 ((dataHello.drop 4).take 12)).toNat = num dataHello 16 2) ∧
    ((crc16 (((dataHello.set 11 0).drop 4).take 12)).toNat ≠ num dataHello 16 2) := by
  decide +kernel

/-- A queue with one place left, and a full one. -/
def fullQueues (n : Nat) (b : Block) : Block :=
  { b with
    evq := List.replicate (b.par.evqDepth - n) ⟨.pktSent, 0, 0⟩
    txq := List.replicate (b.par.txqDepth - n) ack0 }

theorem witness_queue_statements :
    (fullQueues 1 State.reset.blockA).evq.length < (fullQueues 1 State.reset.blockA).par.evqDepth ∧
    (fullQueues 1 State.reset.blockA).txq.length < (fullQueues 1 State.reset.blockA).par.txqDepth ∧
    (fullQueues 0 State.reset.blockA).par.evqDepth ≤ (fullQueues 0 State.reset.blockA).evq.length ∧
    (fullQueues 0 State.reset.blockA).par.txqDepth ≤ (fullQueues 0 State.reset.blockA).txq.length := by
  decide

theorem witness_CountIncrementsOneCounter : Counter.retx ≠ Counter.txData := by decide

/-- An empty event queue, and one with an entry. -/
theorem witness_evq_clauses :
    State.reset.blockA.evq = [] ∧ (State.reset.blockA.pushEvent .staleAck 2 7).evq = ⟨.staleAck, 2, 7⟩ :: [] := by
  decide

/-- Accesses: of 1 byte, at 0x002; each register's own offset; the ends of both windows; the ends of the holes. -/
theorem witness_host_access_clauses :
    ((1 : Byte) ≠ 4 ∧ (0x002 : Offset).toNat % 4 ≠ 0) ∧ ((0x094 : Offset) = (Reg.counter .matchAck).offset) ∧
    ((0x1000 : Offset).toNat % 4 = 0 ∧ 0x1000 ≤ (0x1000 : Offset).toNat ∧ (0x1FFC : Offset).toNat < 0x2000) ∧
    (0x2000 ≤ (0x2000 : Offset).toNat ∧ (0x2FFC : Offset).toNat % 4 = 0 ∧ (0x2FFC : Offset).toNat < 0x3000) ∧
    (regAt 0x05C = none ∧ regAt 0x098 = none ∧ regAt 0xFFC = none ∧ (0xFFC : Offset).toNat < 0x1000) ∧
    (0x3000 ≤ (0x3000 : Offset).toNat ∧ (0x3FFC : Offset).toNat % 4 = 0) ∧
    ((0x000 : Offset).toNat ∉ [0x008, 0x010, 0x014, 0x038, 0x03C]) ∧ (0x2000 ≤ (0x2000 : Offset).toNat) := by
  decide

/-- An offset that names no register, as the statement says it. -/
theorem witness_HostReadReturnsTheWord_hole : ∀ r : Reg, (0x05C : Offset) ≠ r.offset := by
  intro r
  cases r with
  | counter c => cases c <;> decide
  | _ => decide

theorem witness_CommandWordChecksComeFirst :
    0x0A ≤ ((0x0000010A : Word).extractLsb' 0 8).toNat ∧
    (((0x00000109 : Word).extractLsb' 0 8).toNat ≤ 0x09 ∧ (0x00000109 : Word).extractLsb' 0 8 ≠ 0x02 ∧
      (0x00000109 : Word).extractLsb' 8 24 ≠ 0) ∧
    ((0x80000000 : Word).extractLsb' 0 8 ≠ 0x02 ∧ (0x80000000 : Word).extractLsb' 8 24 ≠ 0) ∧
    ((0x00050102 : Word).extractLsb' 0 8 = 0x02 ∧ (0x00058002 : Word).extractLsb' 8 8 ≠ 0) := by
  decide

/-- Reserved bits set: the lowest and the highest. -/
theorem witness_reserved_bits : (1 : BitVec 24) ≠ 0 ∧ (0x800000 : BitVec 24) ≠ 0 ∧ (0x80 : Byte) ≠ 0 := by decide

/-- Each of the four sender states, and TX_SEND's two boundaries: LEN 1024 and 1025, NEXT_SEQ 2^32 - 1 and 2^32. -/
theorem witness_sender_command_clauses :
    (bench pending).blockA.txState = .awaitingAck ∧ State.reset.blockA.txState = .idle ∧
    (bench fun b => { b with txState := .done }).blockA.txState = .done ∧
    (bench fun b => { b with txState := .failed, failCause := .cancelled }).blockA.txState = .failed ∧
    ((1024 : Half).toNat ≤ State.reset.blockA.par.maxPayload ∧
      State.reset.blockA.par.maxPayload < (1025 : Half).toNat) ∧
    (seqLimit.toNat = 2 ^ 32 ∧ (0xFFFFFFFF : SessionSeq).toNat ≠ 2 ^ 32) := by
  decide

/-- A valid ACK that matches, one that does not, and one outside AWAITING_ACK. -/
theorem witness_ack_clauses :
    frameDecode (bench pending).blockA.par.maxPayload ack0 = .valid .ack 0 [] 0 ∧
    (0 : Word) = (bench pending).blockA.pendingSeq ∧
    frameDecode (bench pending).blockA.par.maxPayload ack1 = .valid .ack 1 [] 0 ∧
    (1 : Word) ≠ (bench pending).blockA.pendingSeq ∧ State.reset.blockA.txState ≠ .awaitingAck := by
  decide +kernel

/-- TICK is enabled at reset, with a frame due in 1 tick, and under ANY; not with a frame due. The timer at 2, 1 and 0;
the budget with one retry left, and spent. -/
theorem witness_timer_clauses :
    (∀ e ∈ (flying 1 .simulator).link.flightAB ++ (flying 1 .simulator).link.flightBA, e.2 ≠ 0) ∧
    (flying 0 .any).link.model = .any ∧
    ((flying 0 .simulator).link.model = .simulator ∧
      ∃ e ∈ (flying 0 .simulator).link.flightAB ++ (flying 0 .simulator).link.flightBA, e.2 = 0) ∧
    1 < (bench fun b => { pending b with timerRem := 2 }).blockA.timerRem.toNat ∧
    (bench fun b => { pending b with timerRem := 1, retriesUsed := 2 }).blockA.timerRem.toNat ≤ 1 ∧
    (bench fun b => { pending b with timerRem := 0, retriesUsed := 2 }).blockA.timerRem = 0 ∧
    (bench fun b => { pending b with retriesUsed := 2 }).blockA.retriesUsed.toNat < 3 ∧
    (bench pending).blockA.retx = .held dataHello ∧
    (bench fun b => { pending b with retriesUsed := 3 }).blockA.maxRetries.toNat ≤ 3 := by
  decide

/-- The four classes of a valid DATA frame, with EXP_SEQ = 2^32 for a duplicate, and 0xFFFFFFFF for a future packet. -/
theorem witness_data_clauses :
    frameDecode 1024 dataHello = .valid .data 0 hello 0 ∧
    frameDecode 1024 dataOne = .valid .data 1 [0x2C, 0x20, 0x52, 0x55, 0x44] 0 ∧
    frameDecode 1024 dataLast = .valid .data 0xFFFFFFFF [] 0 ∧ (bench holding).blockA.par.maxPayload = 1024 ∧
    ((0 : Word).toNat = State.reset.blockA.expSeq.toNat ∧ State.reset.blockA.deliverValid = false) ∧
    ((1 : Word).toNat = (bench holding).blockA.expSeq.toNat ∧ (bench holding).blockA.deliverValid = true) ∧
    ((0 : Word).toNat < (bench holding).blockA.expSeq.toNat ∧ (0xFFFFFFFF : Word).toNat < seqLimit.toNat) ∧
    (State.reset.blockA.expSeq.toNat < (1 : Word).toNat ∧
      (bench holding).blockA.expSeq.toNat < (0xFFFFFFFF : Word).toNat) := by
  decide +kernel

/-- A frame of each verdict. -/
theorem witness_verdict_clauses :
    frameDecode 1024 [] = .decodeFail .short ∧ frameDecode 1024 badAck = .checksumFail 0 ∧
    frameDecode 1024 ack0 = .valid .ack 0 [] 0 ∧ frameDecode 1024 dataEmpty = .valid .data 0 [] 0 := by
  decide +kernel

theorem witness_DuplicatesAreAcknowledgedNotDelivered :
    frameDecode (bench holding).blockA.par.maxPayload dataHello = .valid .data 0 hello 0 ∧
    (0 : Word).toNat < (bench holding).blockA.expSeq.toNat ∧
    (bench holding).blockA.txq.length < (bench holding).blockA.par.txqDepth := by
  decide +kernel

theorem witness_LinkTakeMovesTheHead : (bench pending).blockA.txq = dataHello :: [] ∧ State.reset.blockA.txq = [] := by
  decide

/-- A link agent with given probabilities, under SIMULATOR. -/
def chances (loss corruption : Chance) : State :=
  { State.reset with link :=
    { Link.launch with profileAB := { loss := loss, corruption := corruption, delayMin := 0, delayMax := 2 } } }

theorem witness_link_admit_statements :
    (chances .always .never).link.model = .simulator ∧ Direction.bToA ≠ .aToB ∧
    ((chances .always .never).link.profile .aToB).loss = .always ∧
    ((chances .sometimes .always).link.profile .aToB).loss = .sometimes ∧
    ((chances .never .sometimes).link.profile .aToB).loss = .never ∧
    (anyChance (Fate.choice .drop)).link.choices.head? = some (Fate.choice .drop) ∧
    (Fate.choice .drop).drop = true ∧ (Fate.choice (.pass 3)).drop = false ∧ State.reset.link.choices = [] ∧
    (((chances .sometimes .sometimes).link.profile .aToB).delayMin ≤ 0 ∧
      2 ≤ ((chances .sometimes .sometimes).link.profile .aToB).delayMax) ∧
    (11 < dataHello.length ∧ 17 < dataHello.length ∧ (0xFF : Byte) ≠ 0) := by
  decide

/-- Where corruption has p = 1 and the choice asks for it: a frame of 11 bytes, which has no byte 11, goes into flight as
it was and leaves no record (log entry 11); one of 12 bytes is changed in byte 11. -/
theorem witness_link_admit_short_frame :
    ((List.replicate 11 0 : Frame).length ≤ 11 ∧ 11 < (List.replicate 12 0 : Frame).length) ∧
    (∀ n, n = 11 ∨ n = 12 →
      seenLink (fun l => (l.flightAB, l.trace)) (.linkAdmit .aToB (List.replicate n 0))
        { chances .never .always with link :=
          { (chances .never .always).link with choices := [Fate.choice (.corrupt 11 1)] } } =
      some (if n = 11 then ([(List.replicate 11 0, 0)], [])
        else ([(List.replicate 11 0 ++ [1], 0)], [.corrupted .aToB (List.replicate 12 0)]))) := by
  refine ⟨by decide, ?_⟩
  rintro n (rfl | rfl) <;> decide

theorem witness_LinkDeliverHandsOverADueFrame :
    (ack0, 0) ∈ (flying 0 .simulator).link.flight .aToB ∧ (ack0, 5) ∈ (flying 5 .any).link.flight .aToB ∧
    (ack0, 0) ∉ (flying 1 .simulator).link.flight .aToB ∧ (flying 5 .any).link.model = .any := by
  decide

theorem witness_LinkDeliver_any_absent : ∀ due, (ack1, due) ∉ (flying 0 .any).link.flight .aToB := by
  intro due; simp [flying, Link.flight, ack0, ack1]

theorem witness_SysTickAdvancesSharedTime :
    ((∀ e ∈ (flying 1 .simulator).link.flightAB ++ (flying 1 .simulator).link.flightBA, e.2 ≠ 0) ∧
      (flying 1 .simulator).blockA.txq = [] ∧ (flying 1 .simulator).blockB.txq = []) ∧
    (bench pending).link.model = .simulator ∧ (bench pending).blockA.txq ≠ [] := by
  decide

theorem witness_OperationsStayOnTheirAgents :
    (∃ t, exec (.nop .A 0) State.reset = .next t) ∧ actsOn .B (.nop .A 0) = false ∧ actsOnLink (.nop .A 0) = false ∧
    (∃ t, exec (.linkAdmit .aToB ack0) State.reset = .next t) ∧ actsOn .B (.linkAdmit .aToB ack0) = false :=
  ⟨⟨_, rfl⟩, rfl, rfl, ⟨_, rfl⟩, rfl⟩

theorem witness_HalvesDoNotWriteEachOther :
    (∃ t, exec (.txCancel .A 0) (bench pending) = .next t) ∧ isSenderOp (.txCancel .A 0) = true ∧
    (∃ t, exec (.rxReset .A 0) (bench holding) = .next t) ∧ isReceiverOp (.rxReset .A 0) = true :=
  ⟨⟨_, rfl⟩, rfl, ⟨_, rfl⟩, rfl⟩

theorem witness_ReceiverDoesNotReadTheSender :
    (∃ t, exec (.rxReset .A 0) (bench holding) = .next t) ∧ isReceiverOp (.rxReset .A 0) = true ∧
    (∃ t, exec (.rxData .A dataHello) State.reset = .next t) ∧ isReceiverOp (.rxData .A dataHello) = true := by
  have hv : (State.reset.block .A).verdict dataHello = .valid .data 0 hello 0 := by decide +kernel
  exact ⟨⟨_, rfl⟩, rfl, ⟨_, by simp only [exec, execRxData, onData, hv, if_true]; rfl⟩, rfl⟩

theorem witness_SenderDoesNotReadTheReceiver :
    (∃ t, exec (.txEnd .A 0) (bench holding) = .next t) ∧ isSenderOp (.txEnd .A 0) = true ∧
    (∃ t, exec .sysTick State.reset = .next t) ∧ isSenderOp .sysTick = true :=
  ⟨⟨_, rfl⟩, rfl, ⟨_, rfl⟩, rfl⟩

/-- The four ways out of AWAITING_ACK, each taken; the last two conditions serve the other statements about a step. -/
theorem witness_AwaitingAckIsLeftInFourWays :
    (bench pending).blockA.txState = .awaitingAck ∧
    seenA Block.txState (.linkRx .A ack0) (bench pending) = some .idle ∧
    seenA Block.txState (.tick .A) (bench fun b => { pending b with timerRem := 1, maxRetries := 0 }) = some .failed ∧
    seenA Block.txState (.txCancel .A 0) (bench pending) = some .failed ∧
    seenA Block.txState (.reset .A) (bench pending) = some .idle := by
  decide +kernel

/-- NEXT_SEQ unchanged, set to 0, and advanced; DELIVERED unchanged, emptied, and appended to. -/
theorem witness_NextSeq_and_Delivered :
    seenA Block.nextSeq (.linkRx .A ack0) (bench pending) = some 1 ∧
    seenA Block.nextSeq (.txStart .A 0) (bench fun b => { b with nextSeq := 3 }) = some 0 ∧
    seenA Block.nextSeq (.linkRx .A ack1) (bench pending) = some 0 ∧
    seenA Block.delivered (.linkRx .A dataHello) State.reset = some [hello] ∧
    seenA Block.delivered (.rxReset .A 0) (bench holding) = some [] ∧
    seenA Block.delivered (.linkRx .A dataHello) (bench holding) = some [hello] := by
  decide +kernel

theorem witness_HostFaultIsSticky :
    seenA Block.hostFault (.softReset .A 0) (bench fun b => { b with hostFault := true }) = some true ∧
    State.reset.blockA.hostFault = false ∧ seenA Block.hostFault (.hostRead .A 4 0x3FFF) State.reset = some true ∧
    seenA Block.hostFault (.hostWrite .A 2 0x008 0) State.reset = some true := by
  decide

theorem witness_PendingFrameNeverChanges :
    (bench pending).blockA.txState = .awaitingAck ∧
    seenA Block.txState (.hostWrite .A 4 0x1000 0xFFFFFFFF) (bench pending) = some .awaitingAck ∧
    seenA Block.txState (.tick .A) (bench fun b => { pending b with timerRem := 1 }) = some .awaitingAck := by
  decide

/-- RETRIES_USED kept by a failure and by TX_START, one higher after a retransmission, 0 after a reset and TX_SEND. -/
theorem witness_PendingRegistersKeepTheirValues :
    seenA Block.retriesUsed (.tick .A) (bench fun b => { pending b with timerRem := 1, retriesUsed := 3 }) = some 3 ∧
    seenA Block.retriesUsed (.tick .A) (bench fun b => { pending b with timerRem := 1, retriesUsed := 2 }) = some 3 ∧
    seenA Block.retriesUsed (.txStart .A 0) (bench fun b => { b with txState := .failed, retriesUsed := 3 }) = some 3 ∧
    seenA Block.retriesUsed (.softReset .A 0) (bench fun b => { b with txState := .failed, retriesUsed := 3 }) = some 0 ∧
    seenA Block.retriesUsed (.txSend .A 0 0) (bench fun b => { b with retriesUsed := 3 }) = some 0 := by
  decide

/-- TIMEOUT = 1000 with 3 retries, and TIMEOUT = 0 with none. -/
theorem witness_RetryBoundOverTicks :
    (∀ e ∈ (bench pending).link.flightAB ++ (bench pending).link.flightBA, e.2 ≠ 0) ∧
    (bench pending).blockA.txState = .awaitingAck ∧ (bench pending).blockA.retriesUsed = 0 ∧
    (bench pending).blockA.timerRem = (bench pending).blockA.timeout ∧
    1000 = max (bench pending).blockA.timeout.toNat 1 ∧
    (fun b : Block => b.timerRem = b.timeout ∧ 1 = max b.timeout.toNat 1 ∧ b.maxRetries.toNat = 0)
      (bench fun b => { pending b with timeout := 0, timerRem := 0, maxRetries := 0 }).blockA := by
  decide

/-- A state in the middle of a transfer: A waits for an ACK and holds a payload, and B is reset next. -/
def midTransfer : State := { bench (fun b => holding (pending b)) with offered := [[0x30, 0x01]] }

theorem midTransfer_senderA : midTransfer.blockA.SenderInv where
  pending := by decide
  nextSeq_le := by decide
  awaiting_seq := fun _ => by decide
  disarmed := fun h => absurd rfl h
  cause := by decide
  pendingLen_le := by decide
  retx := fun _ => ⟨hello, 0, by decide +kernel, by decide +kernel⟩

theorem midTransfer_senderB : midTransfer.blockB.SenderInv where
  pending := by decide
  nextSeq_le := by decide
  awaiting_seq := fun h => absurd h (by decide)
  disarmed := fun _ => rfl
  cause := by decide
  pendingLen_le := by decide
  retx := fun h => absurd h (by decide)

/-- It meets the invariant, and has a step. -/
theorem witness_StepKeepsTheInvariant : midTransfer.Inv ∧ ∃ t, step midTransfer = .next t := by
  refine ⟨⟨⟨midTransfer_senderA, ?_, ?_⟩, ⟨midTransfer_senderB, ?_, ?_⟩⟩, _, rfl⟩ <;> constructor <;> decide

end Sys2Proof.Tests
end

section
/-!
SUPPORT. Laws of the case rows: what `classify`, `ackMatches`, `expiring`, `retryLeft` and `timeMayPass` say about
the state, when a row that names one case is refused, and what a step does with each kind of offered record.
-/

namespace Sys2Proof.Machine

/-! ### The conditions that the rows test -/

/-- R8: a wire sequence number keeps its value at 33 bits. -/
theorem toNat_zext33 (s : Word) : (zext33 s).toNat = s.toNat :=
  BitVec.toNat_setWidth_of_le (by decide)

/-- R240's classification, on the numbers that the two registers hold. -/
theorem Block.classify_eq (s : Word) (b : Block) :
    b.classify s =
      if s.toNat = b.expSeq.toNat then if b.deliverValid then .sinkBusy else .accept
      else if s.toNat < b.expSeq.toNat then .duplicate
      else .future := by
  simp only [Block.classify, BitVec.toNat_eq, toNat_zext33]

@[simp] theorem Block.classify_eq_accept_iff {s : Word} {b : Block} :
    b.classify s = .accept ↔ s.toNat = b.expSeq.toNat ∧ b.deliverValid = false := by
  rw [Block.classify_eq]
  split_ifs <;> simp [*]

@[simp] theorem Block.classify_eq_sinkBusy_iff {s : Word} {b : Block} :
    b.classify s = .sinkBusy ↔ s.toNat = b.expSeq.toNat ∧ b.deliverValid = true := by
  rw [Block.classify_eq]
  split_ifs <;> simp [*]

@[simp] theorem Block.classify_eq_duplicate_iff {s : Word} {b : Block} :
    b.classify s = .duplicate ↔ s.toNat < b.expSeq.toNat := by
  rw [Block.classify_eq]
  split_ifs <;> simp [*]

@[simp] theorem Block.classify_eq_future_iff {s : Word} {b : Block} :
    b.classify s = .future ↔ b.expSeq.toNat < s.toNat := by
  rw [Block.classify_eq]
  split_ifs <;> simp <;> omega

@[simp] theorem Block.ackMatches_iff {s : Word} {b : Block} :
    b.ackMatches s = true ↔ b.txState = .awaitingAck ∧ s = b.pendingSeq := by
  simp [Block.ackMatches]

@[simp] theorem Block.expiring_iff {b : Block} :
    b.expiring = true ↔ b.txState = .awaitingAck ∧ b.timerRem = 0 := by
  simp [Block.expiring]

@[simp] theorem Block.retryLeft_iff {b : Block} :
    b.retryLeft = true ↔ b.retriesUsed.toNat < b.maxRetries.toNat := by
  simp [Block.retryLeft]

@[simp] theorem Block.retryLeft_eq_false_iff {b : Block} :
    b.retryLeft = false ↔ b.maxRetries.toNat ≤ b.retriesUsed.toNat := by
  simp [Block.retryLeft]

/-- R280: time may pass under ANY, and under SIMULATOR while no frame in flight is due. -/
theorem State.timeMayPass_iff {s : State} :
    s.timeMayPass = true ↔ s.link.model = .any ∨ ∀ e ∈ s.link.flightAB ++ s.link.flightBA, e.2 ≠ 0 := by
  simp only [State.timeMayPass, Link.anyDue, Bool.or_eq_true, Bool.not_eq_true', List.any_eq_false, beq_iff_eq, ne_eq]

theorem State.timeMayPass_eq_false {s : State} (hm : s.link.model = .simulator)
    (hd : ∃ e ∈ s.link.flightAB ++ s.link.flightBA, e.2 = 0) : s.timeMayPass = false := by
  obtain ⟨e, he, h0⟩ := hd
  rw [Bool.eq_false_iff, ne_eq, State.timeMayPass_iff, hm]
  rintro (h | h)
  · cases h
  · exact h e he h0

/-! ### When a row that names one case is refused -/

section Refused

variable {blk : BlockId} {f : Frame} {s : State}

/-- An ACK row is refused unless the verdict is a valid ACK that meets the row's condition. -/
theorem onAck_refused {cond : Word → Block → Bool} {run : Word → Block → Block}
    (h : ∀ seq p ts, (s.block blk).verdict f = .valid .ack seq p ts → cond seq (s.block blk) = false) :
    onAck blk f cond run s = .refused .notThisCase := by
  unfold onAck
  split
  next seq p ts hv => simp [h seq p ts hv]
  all_goals rfl

/-- A DATA row is refused unless the verdict is valid DATA of a class that meets the row's condition. -/
theorem onData_refused {cond : DataClass → Bool} {run : Word → Frame → Block → Block}
    (h : ∀ seq p ts, (s.block blk).verdict f = .valid .data seq p ts → cond ((s.block blk).classify seq) = false) :
    onData blk f cond run s = .refused .notThisCase := by
  unfold onData
  split
  next seq p ts hv => simp [h seq p ts hv]
  all_goals rfl

/-- An EXPIRE row is refused where time may pass and its case does not arise. -/
theorem onExpire_notThisCase {cond : Block → Bool} {run : Block → Block} (ht : s.timeMayPass = true)
    (h : ((s.block blk).expiring && cond (s.block blk)) = false) :
    onExpire blk cond run s = .refused .notThisCase := by
  simp [onExpire, ht, h]

theorem onExpire_notEnabled {cond : Block → Bool} {run : Block → Block} (ht : s.timeMayPass = false) :
    onExpire blk cond run s = .refused .notEnabled := by
  simp [onExpire, ht]

theorem execTick_notEnabled (ht : s.timeMayPass = false) : execTick blk s = .refused .notEnabled := by
  simp [execTick, ht]

theorem execRxInvalid_refused {kind : FrameKind} {seq ts : Word} {p : Frame}
    (hv : (s.block blk).verdict f = .valid kind seq p ts) : execRxInvalid blk f s = .refused .notThisCase := by
  simp [execRxInvalid, hv]

theorem exec_rxAckMatch_refused
    (h : ∀ seq p ts, (s.block blk).verdict f = .valid .ack seq p ts → (s.block blk).ackMatches seq = false) :
    exec (.rxAckMatch blk f) s = .refused .notThisCase :=
  onAck_refused (run := Block.rxAckMatch) h

theorem exec_rxAckStale_refused
    (h : ∀ seq p ts, (s.block blk).verdict f = .valid .ack seq p ts → (s.block blk).ackMatches seq = true) :
    exec (.rxAckStale blk f) s = .refused .notThisCase :=
  onAck_refused (cond := fun seq b => !b.ackMatches seq) (run := Block.rxAckStale) (by simpa using h)

theorem exec_rxData_refused (h : ∀ seq p ts, (s.block blk).verdict f ≠ .valid .data seq p ts) :
    exec (.rxData blk f) s = .refused .notThisCase :=
  onData_refused (cond := fun _ => true) (run := Block.rxData) fun seq p ts hv => absurd hv (h seq p ts)

theorem exec_rxAccept_refused
    (h : ∀ seq p ts, (s.block blk).verdict f = .valid .data seq p ts → (s.block blk).classify seq ≠ .accept) :
    exec (.rxAccept blk f) s = .refused .notThisCase :=
  onData_refused (cond := (· == .accept)) (run := Block.rxAccept) fun seq p ts hv => beq_false_of_ne (h seq p ts hv)

theorem exec_rxSinkBusy_refused
    (h : ∀ seq p ts, (s.block blk).verdict f = .valid .data seq p ts → (s.block blk).classify seq ≠ .sinkBusy) :
    exec (.rxSinkBusy blk f) s = .refused .notThisCase :=
  onData_refused (cond := (· == .sinkBusy)) (run := fun seq _ => Block.rxSinkBusy seq)
    fun seq p ts hv => beq_false_of_ne (h seq p ts hv)

theorem exec_rxDuplicate_refused
    (h : ∀ seq p ts, (s.block blk).verdict f = .valid .data seq p ts → (s.block blk).classify seq ≠ .duplicate) :
    exec (.rxDuplicate blk f) s = .refused .notThisCase :=
  onData_refused (cond := (· == .duplicate)) (run := fun seq _ => Block.rxDuplicate seq)
    fun seq p ts hv => beq_false_of_ne (h seq p ts hv)

theorem exec_rxFuture_refused
    (h : ∀ seq p ts, (s.block blk).verdict f = .valid .data seq p ts → (s.block blk).classify seq ≠ .future) :
    exec (.rxFuture blk f) s = .refused .notThisCase :=
  onData_refused (cond := (· == .future)) (run := fun seq _ => Block.rxFuture seq)
    fun seq p ts hv => beq_false_of_ne (h seq p ts hv)

/-- Both ACK rows stop on a frame that is no valid ACK. -/
theorem ackRows_refused (h : ∀ seq p ts, (s.block blk).verdict f ≠ .valid .ack seq p ts) :
    exec (.rxAckMatch blk f) s = .refused .notThisCase ∧ exec (.rxAckStale blk f) s = .refused .notThisCase :=
  ⟨exec_rxAckMatch_refused fun seq p ts hv => absurd hv (h seq p ts),
    exec_rxAckStale_refused fun seq p ts hv => absurd hv (h seq p ts)⟩

/-- All five DATA rows stop on a frame that is no valid DATA. -/
theorem dataRows_refused (h : ∀ seq p ts, (s.block blk).verdict f ≠ .valid .data seq p ts) :
    exec (.rxData blk f) s = .refused .notThisCase ∧ exec (.rxAccept blk f) s = .refused .notThisCase ∧
      exec (.rxSinkBusy blk f) s = .refused .notThisCase ∧ exec (.rxDuplicate blk f) s = .refused .notThisCase ∧
      exec (.rxFuture blk f) s = .refused .notThisCase :=
  ⟨exec_rxData_refused h, exec_rxAccept_refused fun seq p ts hv => absurd hv (h seq p ts),
    exec_rxSinkBusy_refused fun seq p ts hv => absurd hv (h seq p ts),
    exec_rxDuplicate_refused fun seq p ts hv => absurd hv (h seq p ts),
    exec_rxFuture_refused fun seq p ts hv => absurd hv (h seq p ts)⟩

theorem exec_expireRetransmit_refused (ht : s.timeMayPass = true)
    (h : (s.block blk).expiring = true → (s.block blk).retryLeft = false) :
    exec (.expireRetransmit blk) s = .refused .notThisCase :=
  onExpire_notThisCase (cond := Block.retryLeft) (run := Block.expireRetransmit) ht (by simpa using h)

theorem exec_expireFail_refused (ht : s.timeMayPass = true)
    (h : (s.block blk).expiring = true → (s.block blk).retryLeft = true) :
    exec (.expireFail blk) s = .refused .notThisCase :=
  onExpire_notThisCase (cond := fun b => !b.retryLeft) (run := Block.expireFail) ht (by simpa using h)

end Refused

/-! ### The three kinds of step -/

theorem step_of_decode_ok {s : State} {r : OpRecord} {rest : List OpRecord} {i : Instr}
    (hs : s.offered = r :: rest) (hd : decode r = .ok i) (hw : i.wellFormed = true) :
    step s = exec i (s.afterFetch rest) := by
  simp [step, hs, hd, hw]

theorem step_of_decode_error {s : State} {r : OpRecord} {rest : List OpRecord} {e : DecodeError}
    (hs : s.offered = r :: rest) (hd : decode r = .error e) : step s = .refused (.undecodable e) := by
  simp [step, hs, hd]

theorem step_of_nothing_offered {s : State} (hs : s.offered = []) : step s = .next s := by
  simp [step, hs]

end Sys2Proof.Machine
end

section
/-! PROOFS. The statements of 00_scope.md. -/

namespace Sys2Proof.Machine

/-- Settles O38: the verdict of the frame says which rows its case admits, and every other row is refused. -/
theorem caseRowsStopOutsideTheirCase : Obligations.CaseRowsStopOutsideTheirCase := by
  rintro blk s b f v stop rfl rfl rfl
  refine ⟨fun _ _ _ _ hv => execRxInvalid_refused hv, fun hv => ?rejected, fun seq p ts hv => ?ack,
    fun seq p ts hv => ?data, fun hdue => ?expire, fun hm hdue => ?due⟩
  case rejected =>
    have ⟨hmatch, hstale⟩ := ackRows_refused (hv .ack)
    exact ⟨hmatch, hstale, dataRows_refused (hv .data)⟩
  case ack =>
    refine ⟨fun hm => exec_rxAckMatch_refused fun _ _ _ hv' => ?_,
      fun hm => exec_rxAckStale_refused fun _ _ _ hv' => ?_,
      dataRows_refused fun _ _ _ hv' => by cases hv.symm.trans hv'⟩
    all_goals cases hv.symm.trans hv'
    · rwa [← Bool.not_eq_true, Block.ackMatches_iff]
    · rwa [Block.ackMatches_iff]
  case data =>
    have ⟨hmatch, hstale⟩ := ackRows_refused (s := s) (blk := blk) (f := f) fun _ _ _ hv' => by
      cases hv.symm.trans hv'
    refine ⟨hmatch, hstale, fun hc => exec_rxAccept_refused fun _ _ _ hv' => ?_,
      fun hc => exec_rxSinkBusy_refused fun _ _ _ hv' => ?_,
      fun hc => exec_rxDuplicate_refused fun _ _ _ hv' => ?_,
      fun hc => exec_rxFuture_refused fun _ _ _ hv' => ?_⟩
    all_goals cases hv.symm.trans hv'
    · simpa [imp_iff_not_or] using hc
    · simpa [imp_iff_not_or] using hc
    · simpa using hc
    · simpa using hc
  case expire =>
    have ht := State.timeMayPass_iff.mpr hdue
    refine ⟨fun hc => ?_, fun hc => ?_, fun hc => ?_⟩
    · have hne : ¬(s.block blk).expiring = true := by rwa [Block.expiring_iff]
      exact ⟨exec_expireRetransmit_refused ht fun h => absurd h hne, exec_expireFail_refused ht fun h => absurd h hne⟩
    · exact exec_expireFail_refused ht fun _ => Block.retryLeft_iff.mpr hc
    · exact exec_expireRetransmit_refused ht fun _ => Block.retryLeft_eq_false_iff.mpr hc
  case due =>
    have ht := State.timeMayPass_eq_false hm hdue
    exact ⟨execTick_notEnabled ht, onExpire_notEnabled (run := Block.expireRetransmit) ht,
      onExpire_notEnabled (cond := fun b => !b.retryLeft) (run := Block.expireFail) ht⟩

/-- Settles O5: `step` by what stands first in the list of offered records. -/
theorem stepRunsTheOfferedOperation : Obligations.StepRunsTheOfferedOperation :=
  ⟨fun _ _ _ _ => step_of_decode_ok, fun _ _ _ _ => step_of_decode_error, fun _ => step_of_nothing_offered⟩

/-- Settles O14: the host reads a counter as `Counters.get`, and `bump` raises the one it names. -/
theorem countIncrementsOneCounter : Obligations.CountIncrementsOneCounter := by
  intro b c c'
  have hread (k : Counter) : (b.cnt c).readReg (.counter k) =
      if k = c then b.readReg (.counter c) + 1 else b.readReg (.counter k) := Counters.get_bump b.counters c k
  refine ⟨?_, fun hne => ?_, rfl⟩
  · rw [hread, if_pos rfl, BitVec.toNat_add]; rfl
  · rw [hread, if_neg hne]

end Sys2Proof.Machine
end

section
/-! SUPPORT. What an operation can do to one half of a block (R284), said once: `SenderMove` for the sender session
and `ReceiverMove` for the receiver session. Every `BlockMove` is one of each. -/

namespace Sys2Proof.Machine

/-! ### The rows of LINK_RX -/

/-- What a counted frame can make of a block `b`: the rows that LINK_RX resolves into (R160). -/
inductive ArrivalMove (b : Block) : Block → Prop
  | invalidStruct (sub : DecodeSub) : ArrivalMove b (b.rxInvalidStruct sub)
  | invalidCsum (sc : Word) : ArrivalMove b (b.rxInvalidCsum sc)
  | ackMatch (s : Word) : b.ackMatches s = true → ArrivalMove b (b.rxAckMatch s)
  | ackStale (s : Word) : b.ackMatches s = false → ArrivalMove b (b.rxAckStale s)
  | accept (s : Word) (p : Frame) :
      p.length ≤ b.par.maxPayload → b.classify s = .accept → ArrivalMove b (b.rxAccept s p)
  | sinkBusy (s : Word) : b.classify s = .sinkBusy → ArrivalMove b (b.rxSinkBusy s)
  | duplicate (s : Word) : b.classify s = .duplicate → ArrivalMove b (b.rxDuplicate s)
  | future (s : Word) : b.classify s = .future → ArrivalMove b (b.rxFuture s)

/-- RX_DATA is the row of its sequence's class (R240). -/
theorem Block.rxData_arrival {s : Word} {p : Frame} {b : Block} (hp : p.length ≤ b.par.maxPayload) :
    ArrivalMove b (b.rxData s p) := by
  unfold Block.rxData
  split <;> rename_i hc
  · exact .accept s p hp hc
  · exact .sinkBusy s hc
  · exact .duplicate s hc
  · exact .future s hc

/-- LINK_RX counts the frame and runs the row of its verdict (R160). -/
theorem Block.linkRx_arrival (f : Frame) (b : Block) : ArrivalMove (b.cnt .rxFrames) (b.linkRx f) := by
  unfold Block.linkRx Block.resolve
  split
  · exact .invalidStruct _
  · exact .invalidCsum _
  · unfold Block.rxAck
    split
    · exact .ackMatch _ (by assumption)
    · exact .ackStale _ (Bool.not_eq_true _ ▸ ‹¬ _›)
  · rename_i hv
    exact Block.rxData_arrival (frameDecode_valid hv).1

/-! ### The sender session -/

/-- What one operation can make of the sender session, RETX and TXBUF of a block, with the guard and the record that
tell the cases apart. -/
inductive SenderMove (b b' : Block) : Prop
  | keep : b.sameSender b' → SenderMove b b'
  | fillTxbuf (j : Nat) (xs : List Byte) :
      Block.sameSender { b with txbuf := Memory.storeBelow b.par.maxPayload j xs b.txbuf } b' → SenderMove b b'
  | start : b.txState ≠ .awaitingAck → b'.cmdStatus = 0x00000100 →
      Block.sameSender
        { b with txState := .idle, nextSeq := 0, pendingValid := false, timerRem := 0, failCause := .none } b' →
      SenderMove b b'
  | send (len : Half) (fill : Nat → Byte) : b.txState = .idle → len.toNat ≤ b.par.maxPayload → b.nextSeq ≠ seqLimit →
      (b.holdFrame len (b.fragmentFrame len fill)).sameSender b' → SenderMove b b'
  | finish : b.txState = .idle → Block.sameSender { b with txState := .done } b' → SenderMove b b'
  | cancel : b.txState = .idle ∨ b.txState = .awaitingAck → b'.cmdStatus = 0x00000400 →
      (b.failWith .cancelled).sameSender b' → SenderMove b b'
  | ack : b.txState = .awaitingAck → b'.counters.matchAck = b.counters.matchAck + 1 →
      Block.sameSender
        { b with txState := .idle, nextSeq := b.nextSeq + 1, pendingValid := false, timerRem := 0 } b' →
      SenderMove b b'
  | countDown : b.txState = .awaitingAck → b.countDown.sameSender b' → SenderMove b b'
  | retransmit : b.txState = .awaitingAck → b.retryLeft = true → b.expireRetransmit.sameSender b' → SenderMove b b'
  | giveUp : b.txState = .awaitingAck → b.retryLeft = false →
      (b.failWith .retryExhausted).sameSender b' → SenderMove b b'
  | reset (n : Nat) : b'.txq = [] → b'.evq = [] → b'.cmdStatus = 0 ∨ b'.cmdStatus = 0x00000900 →
      (b.resetAssign n).sameSender b' → SenderMove b b'

section SameSender
variable (b c : Block)

@[simp] theorem Block.sameSender_refl : b.sameSender b := by simp [Block.sameSender]
@[simp] theorem Block.sameSender_advanceNow : b.sameSender c.advanceNow ↔ b.sameSender c := Iff.rfl
@[simp] theorem Block.sameSender_cnt (k : Counter) : b.sameSender (c.cnt k) ↔ b.sameSender c := Iff.rfl
@[simp] theorem Block.sameSender_setIrq (bit : IrqBit) : b.sameSender (c.setIrq bit) ↔ b.sameSender c := Iff.rfl
@[simp] theorem Block.sameSender_pushEvent (code : EventCode) (sub : Byte) (seq : Word) :
    b.sameSender (c.pushEvent code sub seq) ↔ b.sameSender c := Iff.rfl
@[simp] theorem Block.sameSender_emitFrame (f : Frame) : b.sameSender (c.emitFrame f) ↔ b.sameSender c := Iff.rfl
@[simp] theorem Block.sameSender_record (op : Byte) (r : Option CmdError) :
    b.sameSender (c.record op r) ↔ b.sameSender c := Iff.rfl
@[simp] theorem Block.sameSender_takePayload (s : Word) (p : Frame) :
    b.sameSender (c.takePayload s p) ↔ b.sameSender c := Iff.rfl
@[simp] theorem Block.sameSender_sendAck (s : Word) : b.sameSender (c.sendAck s) ↔ b.sameSender c := by
  simp [Block.sendAck]

end SameSender

theorem Block.countDown_advanceNow (b : Block) : b.advanceNow.countDown = b.countDown.advanceNow := rfl

theorem Block.rxAckMatch_matchAck (s : Word) (b : Block) :
    (b.rxAckMatch s).counters.matchAck = b.counters.matchAck + 1 := by
  simp only [Block.rxAckMatch, Block.pushEvent_counters]
  split <;> rfl

/-! ### The receiver session -/

/-- What one operation can make of the receiver session, RXBUF and DELIVERED of a block. -/
inductive ReceiverMove (b b' : Block) : Prop
  | keep : b.sameReceiver b' → ReceiverMove b b'
  | accept (s : Word) (p : Frame) : p.length ≤ b.par.maxPayload → b.classify s = .accept →
      (b.takePayload s p).sameReceiver b' → ReceiverMove b b'
  | restart : b'.cmdStatus = 0x00000500 → Block.sameReceiver { b with expSeq := 0, delivered := [] } b' →
      ReceiverMove b b'
  | release : b.deliverValid = true → Block.sameReceiver { b with deliverValid := false } b' → ReceiverMove b b'
  | reset (n : Nat) : b'.txq = [] → b'.evq = [] → b'.cmdStatus = 0 ∨ b'.cmdStatus = 0x00000900 →
      (b.resetAssign n).sameReceiver b' → ReceiverMove b b'

section SameReceiver
variable (b c : Block)

@[simp] theorem Block.sameReceiver_refl : b.sameReceiver b := by simp [Block.sameReceiver]
@[simp] theorem Block.sameReceiver_advanceNow : b.sameReceiver c.advanceNow ↔ b.sameReceiver c := Iff.rfl
@[simp] theorem Block.sameReceiver_countDown : b.sameReceiver c.countDown ↔ b.sameReceiver c := Iff.rfl
@[simp] theorem Block.sameReceiver_failWith (cause : FailCause) :
    b.sameReceiver (c.failWith cause) ↔ b.sameReceiver c := Iff.rfl
@[simp] theorem Block.sameReceiver_holdFrame (len : Half) (f : Frame) :
    b.sameReceiver (c.holdFrame len f) ↔ b.sameReceiver c := Iff.rfl
@[simp] theorem Block.sameReceiver_cnt (k : Counter) : b.sameReceiver (c.cnt k) ↔ b.sameReceiver c := Iff.rfl
@[simp] theorem Block.sameReceiver_setIrq (bit : IrqBit) : b.sameReceiver (c.setIrq bit) ↔ b.sameReceiver c := Iff.rfl
@[simp] theorem Block.sameReceiver_pushEvent (code : EventCode) (sub : Byte) (seq : Word) :
    b.sameReceiver (c.pushEvent code sub seq) ↔ b.sameReceiver c := Iff.rfl
@[simp] theorem Block.sameReceiver_emitFrame (f : Frame) : b.sameReceiver (c.emitFrame f) ↔ b.sameReceiver c := Iff.rfl
@[simp] theorem Block.sameReceiver_record (op : Byte) (r : Option CmdError) :
    b.sameReceiver (c.record op r) ↔ b.sameReceiver c := Iff.rfl
@[simp] theorem Block.sameReceiver_sendAck (s : Word) : b.sameReceiver (c.sendAck s) ↔ b.sameReceiver c := by
  simp [Block.sendAck]
@[simp] theorem Block.sameReceiver_expireRetransmit : b.sameReceiver c.expireRetransmit ↔ b.sameReceiver c := by
  simp [Block.expireRetransmit, Block.sameReceiver]
@[simp] theorem Block.sameReceiver_expireFail : b.sameReceiver c.expireFail ↔ b.sameReceiver c := by
  simp [Block.expireFail]

end SameReceiver

/-! ### Every move of a block is a move of each half -/

/-- What one operation does to the halves of a block, whose parameters it keeps. -/
structure HalfMoves (b b' : Block) : Prop where
  sender : SenderMove b b'
  receiver : ReceiverMove b b'
  par_eq : b'.par = b.par

/-- Of the rows of LINK_RX only a matching ACK touches the sender session, and only RX_ACCEPT the receiver session. -/
theorem ArrivalMove.halves {b c b' : Block} (hc : c = b ∨ c = b.cnt .rxFrames) (m : ArrivalMove c b') :
    HalfMoves b b' := by
  cases m with
  | ackMatch s hm =>
    have ha : c.txState = .awaitingAck := (Block.ackMatches_iff.1 hm).1
    rcases hc with rfl | rfl <;>
      exact ⟨.ack ha (Block.rxAckMatch_matchAck s _) (by simp [Block.rxAckMatch, Block.sameSender]),
        .keep (by simp [Block.rxAckMatch, Block.sameReceiver]), by simp [Block.rxAckMatch]⟩
  | accept s p hp hs =>
    rcases hc with rfl | rfl <;>
      exact ⟨.keep (by simp [Block.rxAccept]),
        .accept s p hp hs (by simp [Block.rxAccept, Block.sendAck, Block.sameReceiver]),
        by simp [Block.rxAccept, Block.sendAck]⟩
  | invalidStruct | invalidCsum | ackStale | sinkBusy | duplicate | future =>
    simp only [Block.rxInvalidStruct, Block.rxInvalidCsum, Block.rxAckStale, Block.rxSinkBusy, Block.rxDuplicate,
      Block.rxFuture]
    rcases hc with rfl | rfl <;> exact ⟨.keep (by simp), .keep (by simp), by simp [Block.sendAck]⟩

theorem BlockMove.halves {b b' : Block} (m : BlockMove b b') : HalfMoves b b' := by
  cases m with
  | same | read | faultedRead | faultedWrite | clearIrq | enableIrq | setTimeout | setMaxRetries | failed | nop
  | clrCounters | take => exact ⟨.keep (by simp [Block.sameSender]), .keep (by simp [Block.sameReceiver]), rfl⟩
  | fillTxbuf j v => exact ⟨.fillTxbuf j (lanesOf v) (by simp), .keep (by simp [Block.sameReceiver]), rfl⟩
  | txStart c hc =>
    obtain ⟨hs, rfl⟩ := Block.txStart_ok hc
    exact ⟨.start hs rfl (by simp), .keep (by simp [Block.sameReceiver]), rfl⟩
  | txSend len fill c hc =>
    obtain ⟨hs, hl, hn, rfl⟩ := Block.txSend_ok hc
    exact ⟨.send len fill hs hl hn (by simp [Block.sendFragment]), .keep (by simp [Block.sendFragment]),
      by simp [Block.sendFragment]⟩
  | txEnd c hc =>
    obtain ⟨hs, rfl⟩ := Block.txEnd_ok hc
    exact ⟨.finish hs (by simp), .keep (by simp [Block.sameReceiver]), rfl⟩
  | txCancel c hc =>
    obtain ⟨hs, rfl⟩ := Block.txCancel_ok hc
    exact ⟨.cancel hs rfl (by simp), .keep (by simp), rfl⟩
  | rxReset => exact ⟨.keep (by simp [Block.sameSender]), .restart rfl (by simp), rfl⟩
  | rxRelease c hc =>
    obtain ⟨hv, rfl⟩ := Block.rxRelease_ok hc
    exact ⟨.keep (by simp [Block.sameSender]), .release hv (by simp), rfl⟩
  | evqPop c hc =>
    obtain ⟨_, _, -, rfl⟩ := Block.evqPop_ok hc
    exact ⟨.keep (by simp [Block.sameSender]), .keep (by simp [Block.sameReceiver]), rfl⟩
  | softReset n => exact ⟨.reset n rfl rfl (.inr rfl) (by simp), .reset n rfl rfl (.inr rfl) (by simp), rfl⟩
  | reset n => exact ⟨.reset n rfl rfl (.inl rfl) (by simp), .reset n rfl rfl (.inl rfl) (by simp), rfl⟩
  | linkRx f => exact (b.linkRx_arrival f).halves (.inr rfl)
  | invalidStruct sub => exact (ArrivalMove.invalidStruct sub).halves (.inl rfl)
  | invalidCsum sc => exact (ArrivalMove.invalidCsum sc).halves (.inl rfl)
  | ackMatch s hm => exact (ArrivalMove.ackMatch s hm).halves (.inl rfl)
  | ackStale s hm => exact (ArrivalMove.ackStale s hm).halves (.inl rfl)
  | accept s p hp hc => exact (ArrivalMove.accept s p hp hc).halves (.inl rfl)
  | sinkBusy s hc => exact (ArrivalMove.sinkBusy s hc).halves (.inl rfl)
  | duplicate s hc => exact (ArrivalMove.duplicate s hc).halves (.inl rfl)
  | future s hc => exact (ArrivalMove.future s hc).halves (.inl rfl)
  | tick =>
    rcases tick_cases b with ⟨-, he⟩ | ⟨hs, -, he⟩ | ⟨hs, -, hr, he⟩ | ⟨hs, -, hr, he⟩ <;> rw [he]
    · exact ⟨.keep (by simp), .keep (by simp), rfl⟩
    · exact ⟨.countDown hs (by simp [Block.countDown_advanceNow]), .keep (by simp), rfl⟩
    · exact ⟨.retransmit hs hr (by simp [Block.sameSender, Block.expireRetransmit]), .keep (by simp),
        by simp [Block.expireRetransmit]⟩
    · exact ⟨.giveUp hs hr (by simp [Block.sameSender, Block.expireFail]), .keep (by simp),
        by simp [Block.expireFail]⟩
  | expireRetransmit hs _ hr =>
    exact ⟨.retransmit hs hr (by simp), .keep (by simp), by simp [Block.expireRetransmit]⟩
  | expireFail hs _ hr =>
    exact ⟨.giveUp hs hr (by simp [Block.expireFail]), .keep (by simp), by simp [Block.expireFail]⟩

end Sys2Proof.Machine
end

section
/-! SUPPORT. The invariant of a block (R32 to R49, R98, R206, R220, R250), kept by each move. -/

namespace Sys2Proof.Machine

/-! ### The sender session -/

/-- The invariant does not depend on RETRIES_USED or TXBUF, and on TIMER_REM only outside AWAITING_ACK. -/
theorem Block.SenderInv.congr {b b' : Block} {t : Word} {r : Half} {m : Memory} (h : b.SenderInv)
    (hs : Block.sameSender { b with timerRem := t, retriesUsed := r, txbuf := m } b')
    (ht : b.txState ≠ .awaitingAck → t = 0) (hp : b'.par = b.par) : b'.SenderInv := by
  obtain ⟨hst, hns, hpv, hps, hpl, -, htr, hfc, hrx, -⟩ := hs
  obtain ⟨h1, h2, h3, -, h5, h6, h7⟩ := h
  constructor <;> simp_all [Block.retxHoldsPending]

/-- A block with the same parameters and sender session. -/
theorem Block.SenderInv.of_same {b b' : Block} (h : b.SenderInv) (hs : b.sameSender b') (hp : b'.par = b.par) :
    b'.SenderInv := h.congr hs h.disarmed hp

theorem toNat_lt_of_ne_seqLimit {q : SessionSeq} (hle : q.toNat ≤ 2 ^ 32) (hne : q ≠ seqLimit) : q.toNat < 2 ^ 32 := by
  have : q.toNat ≠ 2 ^ 32 := fun h => hne (BitVec.eq_of_toNat_eq h)
  omega

theorem toNat_add_one_of_lt {q : SessionSeq} (h : q.toNat < 2 ^ 32) : (q + 1).toNat = q.toNat + 1 := by
  rw [BitVec.toNat_add, show (1 : SessionSeq).toNat = 1 from rfl]
  omega

/-- R33: a session sequence number below 2^32 is the wire sequence number it is sent as. -/
theorem zext33_wireSeq {b : Block} (h : b.nextSeq.toNat < 2 ^ 32) : zext33 b.wireSeq = b.nextSeq := by
  apply BitVec.eq_of_toNat_eq
  rw [toNat_zext33, Block.wireSeq, BitVec.toNat_setWidth, Nat.mod_eq_of_lt h]

/-- R202: the session that TX_START opens. -/
theorem Block.SenderInv.start {b : Block} (h : b.SenderInv) :
    Block.SenderInv
      { b with txState := .idle, nextSeq := 0, pendingValid := false, timerRem := 0, failCause := .none } := by
  constructor <;> simp [h.pendingLen_le]

/-- R204: TX_SEND holds the frame of the fragment it numbers with NEXT_SEQ. -/
theorem Block.SenderInv.send {b : Block} (h : b.SenderInv) {len : Half} (fill : Nat → Byte)
    (hidle : b.txState = .idle) (hlen : len.toNat ≤ b.par.maxPayload) (hseq : b.nextSeq ≠ seqLimit) :
    (b.holdFrame len (b.fragmentFrame len fill)).SenderInv where
  pending := by simp
  nextSeq_le := h.nextSeq_le
  awaiting_seq _ := (zext33_wireSeq (toNat_lt_of_ne_seqLimit h.nextSeq_le hseq)).symm
  disarmed hne := absurd rfl hne
  cause := by simpa [hidle] using h.cause
  pendingLen_le := hlen
  retx _ := ⟨_, _, Memory.length_firstBytes _ _ _, rfl⟩

/-- R208: a transfer ends from IDLE. -/
theorem Block.SenderInv.finish {b : Block} (h : b.SenderInv) (hidle : b.txState = .idle) :
    Block.SenderInv { b with txState := .done } where
  pending := by simpa [hidle] using h.pending
  nextSeq_le := h.nextSeq_le
  awaiting_seq := by simp
  disarmed _ := h.disarmed (by simp [hidle])
  cause := by simpa [hidle] using h.cause
  pendingLen_le := h.pendingLen_le
  retx := by simp

/-- R210, R218: a transfer fails for a cause. -/
theorem Block.SenderInv.failWith {b : Block} (h : b.SenderInv) {cause : FailCause} (hc : cause ≠ .none) :
    (b.failWith cause).SenderInv where
  pending := by simp
  nextSeq_le := h.nextSeq_le
  awaiting_seq := by simp
  disarmed _ := rfl
  cause := by simpa using hc
  pendingLen_le := h.pendingLen_le
  retx := by simp

/-- R206: the ACK of the pending packet makes NEXT_SEQ, the packet's wire sequence number, one higher. -/
theorem Block.SenderInv.ack {b : Block} (h : b.SenderInv) (hs : b.txState = .awaitingAck) :
    Block.SenderInv
      { b with txState := .idle, nextSeq := b.nextSeq + 1, pendingValid := false, timerRem := 0 } where
  pending := by simp
  nextSeq_le := by
    have hlt : b.nextSeq.toNat < 2 ^ 32 := by rw [h.awaiting_seq hs, toNat_zext33]; exact b.pendingSeq.isLt
    exact (toNat_add_one_of_lt hlt).trans_le hlt
  awaiting_seq := by simp
  disarmed _ := rfl
  cause := by simpa [hs] using h.cause
  pendingLen_le := h.pendingLen_le
  retx := by simp

/-- R300: a reset sender session. -/
theorem Block.senderInv_resetAssign (n : Nat) (b : Block) : (b.resetAssign n).SenderInv := by
  constructor <;> simp [Block.resetAssign, Block.afterReset]

theorem SenderMove.inv {b b' : Block} (m : SenderMove b b') (hp : b'.par = b.par) (h : b.SenderInv) :
    b'.SenderInv := by
  cases m with
  | keep hs => exact h.of_same hs hp
  | fillTxbuf j xs hs => exact h.congr hs h.disarmed hp
  | start _ _ hs => exact h.start.of_same hs hp
  | send len fill hidle hlen hseq hs => exact (h.send fill hidle hlen hseq).of_same hs hp
  | finish hidle hs => exact (h.finish hidle).of_same hs hp
  | cancel _ _ hs => exact (h.failWith (by simp)).of_same hs hp
  | ack ha _ hs => exact (h.ack ha).of_same hs hp
  | countDown ha hs => exact h.congr hs (absurd ha) hp
  | retransmit ha _ hs => exact h.congr hs (absurd ha) hp
  | giveUp _ _ hs => exact (h.failWith (by simp)).of_same hs hp
  | reset n _ _ _ hs => exact (b.senderInv_resetAssign n).of_same hs hp

/-! ### The receiver session -/

/-- The invariant does not depend on DELIVER_VALID. -/
theorem Block.ReceiverInv.of_same {b b' : Block} {v : Bool} (h : b.ReceiverInv)
    (hs : Block.sameReceiver { b with deliverValid := v } b') (hp : b'.par = b.par) : b'.ReceiverInv := by
  obtain ⟨hes, -, -, hdl, -, hd⟩ := hs
  obtain ⟨h1, h2, h3, h4⟩ := h
  constructor <;> simp_all

/-- R241: an accepted payload is counted by EXP_SEQ, which a 32-bit sequence number equalled. -/
theorem Block.ReceiverInv.takePayload {b : Block} (h : b.ReceiverInv) {s : Word} {p : Frame}
    (hp : p.length ≤ b.par.maxPayload) (hc : b.classify s = .accept) : (b.takePayload s p).ReceiverInv := by
  have hlt : b.expSeq.toNat < 2 ^ 32 := (Block.classify_eq_accept_iff.1 hc).1 ▸ s.isLt
  have hadd : (b.takePayload s p).expSeq.toNat = b.expSeq.toNat + 1 := toNat_add_one_of_lt hlt
  constructor
  · rw [hadd]; exact hlt
  · rw [hadd, Block.takePayload_delivered, List.length_append, h.delivered_length, List.length_singleton]
  · intro q hq
    rcases List.mem_append.1 hq with hq | hq
    · exact h.delivered_fit q hq
    · rwa [List.mem_singleton.1 hq]
  · exact (BitVec.toNat_ofNat p.length 16).trans_le ((Nat.mod_le _ _).trans hp)

/-- R248: RX_RESET empties DELIVERED with EXP_SEQ. -/
theorem Block.ReceiverInv.restart {b : Block} (h : b.ReceiverInv) :
    Block.ReceiverInv { b with expSeq := 0, delivered := [] } := by
  constructor <;> simp [h.deliverLen_le]

/-- R300: a reset receiver session. -/
theorem Block.receiverInv_resetAssign (n : Nat) (b : Block) : (b.resetAssign n).ReceiverInv := by
  constructor <;> simp [Block.resetAssign, Block.afterReset]

theorem ReceiverMove.inv {b b' : Block} (m : ReceiverMove b b') (hp : b'.par = b.par) (h : b.ReceiverInv) :
    b'.ReceiverInv := by
  cases m with
  | keep hs => exact h.of_same hs hp
  | accept s p hl hc hs => exact (h.takePayload hl hc).of_same hs hp
  | restart _ hs => exact h.restart.of_same hs hp
  | release _ hs => exact h.of_same hs hp
  | reset n _ _ _ hs => exact (b.receiverInv_resetAssign n).of_same hs hp

/-! ### Buffers and queues -/

theorem length_frameEncode (kind : FrameKind) (seq : Word) (payload : Frame) (ts : Word) :
    (frameEncode kind seq payload ts).length = 13 + payload.length := by
  simp [frameEncode, frameBody, be32, be16]; omega

theorem Block.StorageInv.of_same {b b' : Block} (h : b.StorageInv) (hp : b'.par = b.par) (ht : b'.txbuf = b.txbuf)
    (hr : b'.rxbuf = b.rxbuf) (he : b'.evq = b.evq) (hq : b'.txq = b.txq) : b'.StorageInv := by
  obtain ⟨h1, h2, h3, h4, h5⟩ := h
  constructor <;> simp_all

section Storage
variable {b : Block}

theorem Block.StorageInv.cnt (h : b.StorageInv) (c : Counter) : (b.cnt c).StorageInv := h.of_same rfl rfl rfl rfl rfl
theorem Block.StorageInv.setIrq (h : b.StorageInv) (i : IrqBit) : (b.setIrq i).StorageInv :=
  h.of_same rfl rfl rfl rfl rfl
theorem Block.StorageInv.record (h : b.StorageInv) (op : Byte) (r : Option CmdError) : (b.record op r).StorageInv :=
  h.of_same rfl rfl rfl rfl rfl
theorem Block.StorageInv.failWith (h : b.StorageInv) (cause : FailCause) : (b.failWith cause).StorageInv :=
  h.of_same rfl rfl rfl rfl rfl
theorem Block.StorageInv.pushEvent (h : b.StorageInv) (code : EventCode) (sub : Byte) (seq : Word) :
    (b.pushEvent code sub seq).StorageInv :=
  ⟨h.txbuf, h.rxbuf, b.pushEvent_evq_le code sub seq h.evq_le, h.txq_le, h.txq_frames⟩

theorem Block.StorageInv.emitFrame (h : b.StorageInv) {f : Frame}
    (hf : 13 ≤ f.length ∧ f.length ≤ 13 + b.par.maxPayload) : (b.emitFrame f).StorageInv :=
  ⟨h.txbuf, h.rxbuf, h.evq_le, b.emitFrame_txq_le f h.txq_le,
    fun g hg => (Block.mem_emitFrame_txq hg).elim (h.txq_frames g) fun he => he ▸ hf⟩

/-- R98: the framer's frames have a legal size. -/
theorem Block.StorageInv.emitEncoded (h : b.StorageInv) (kind : FrameKind) (seq : Word) {p : Frame} (ts : Word)
    (hp : p.length ≤ b.par.maxPayload) : (b.emitFrame (frameEncode kind seq p ts)).StorageInv :=
  h.emitFrame (by rw [length_frameEncode]; omega)

theorem Block.StorageInv.sendAck (h : b.StorageInv) (s : Word) : (b.sendAck s).StorageInv :=
  ((h.emitEncoded .ack s b.now (Nat.zero_le _)).cnt _).pushEvent _ _ _

theorem Block.StorageInv.takePayload (h : b.StorageInv) (s : Word) (p : Frame) : (b.takePayload s p).StorageInv :=
  ⟨h.txbuf, Memory.storeBelow_fits _ _ _ _ h.rxbuf, h.evq_le, h.txq_le, h.txq_frames⟩

theorem Block.storageInv_resetAssign (n : Nat) (b : Block) : (b.resetAssign n).StorageInv :=
  ⟨Memory.reset_fits _, Memory.reset_fits _, Nat.zero_le _, Nat.zero_le _, fun _ hf => absurd hf List.not_mem_nil⟩

/-- R217: what is retransmitted is the frame of the pending packet. -/
theorem Block.StorageInv.expireRetransmit (h : b.StorageInv) (hr : b.retxHoldsPending)
    (hl : b.pendingLen.toNat ≤ b.par.maxPayload) : b.expireRetransmit.StorageInv := by
  obtain ⟨p, ts, hlen, hretx⟩ := hr
  have hbytes : b.retxBytes = frameEncode .data b.pendingSeq p ts := by simp [Block.retxBytes, hretx]
  have hemit : (b.emitFrame b.retxBytes).StorageInv := hbytes ▸ h.emitEncoded .data b.pendingSeq ts (hlen ▸ hl)
  refine Block.StorageInv.pushEvent (Block.StorageInv.cnt ?_ .retx) _ _ _
  exact hemit.of_same rfl rfl rfl rfl rfl

theorem Block.StorageInv.expireFail (h : b.StorageInv) : b.expireFail.StorageInv := (h.failWith _).pushEvent _ _ _

theorem Block.StorageInv.sendFragment (h : b.StorageInv) {len : Half} (fill : Nat → Byte)
    (hlen : len.toNat ≤ b.par.maxPayload) : (b.sendFragment len fill).StorageInv := by
  have hhold : (b.holdFrame len (b.fragmentFrame len fill)).StorageInv := h.of_same rfl rfl rfl rfl rfl
  exact ((hhold.emitEncoded .data b.wireSeq b.now ((Memory.length_firstBytes ..).trans_le hlen)).cnt _).pushEvent _ _ _

end Storage

theorem ArrivalMove.storageInv {b b' : Block} (m : ArrivalMove b b') (h : b.StorageInv) : b'.StorageInv := by
  cases m with
  | invalidStruct | invalidCsum | ackStale | sinkBusy | future => exact (h.cnt _).pushEvent _ _ _
  | ackMatch =>
    refine Block.StorageInv.pushEvent (Block.StorageInv.cnt ?_ _) _ _ _
    exact h.of_same rfl rfl rfl rfl rfl
  | accept s p _ _ => exact ((((h.takePayload s p).cnt _).setIrq _).pushEvent _ _ _).sendAck s
  | duplicate s _ => exact ((h.cnt _).pushEvent _ _ _).sendAck s

theorem BlockMove.storageInv {b b' : Block} (m : BlockMove b b') (hsend : b.SenderInv) (h : b.StorageInv) :
    b'.StorageInv := by
  cases m with
  | same | read | faultedRead | faultedWrite | clearIrq | enableIrq | setTimeout | setMaxRetries | failed
  | nop | rxReset | clrCounters => exact h.of_same rfl rfl rfl rfl rfl
  | fillTxbuf j v => exact ⟨Memory.storeBelow_fits _ _ _ _ h.txbuf, h.rxbuf, h.evq_le, h.txq_le, h.txq_frames⟩
  | txStart c hc => obtain ⟨-, rfl⟩ := Block.txStart_ok hc; exact h.of_same rfl rfl rfl rfl rfl
  | txSend len fill c hc =>
    obtain ⟨-, hlen, -, rfl⟩ := Block.txSend_ok hc; exact (h.sendFragment fill hlen).record _ _
  | txEnd c hc =>
    obtain ⟨-, rfl⟩ := Block.txEnd_ok hc
    refine ((Block.StorageInv.setIrq ?_ _).pushEvent _ _ _).record _ _
    exact h.of_same rfl rfl rfl rfl rfl
  | txCancel c hc => obtain ⟨-, rfl⟩ := Block.txCancel_ok hc; exact ((h.failWith _).pushEvent _ _ _).record _ _
  | rxRelease c hc => obtain ⟨-, rfl⟩ := Block.rxRelease_ok hc; exact h.of_same rfl rfl rfl rfl rfl
  | evqPop c hc =>
    obtain ⟨e, rest, hq, rfl⟩ := Block.evqPop_ok hc
    have hle : rest.length ≤ b.par.evqDepth := (Nat.le_succ _).trans (by simpa [hq] using h.evq_le)
    exact ⟨h.txbuf, h.rxbuf, hle, h.txq_le, h.txq_frames⟩
  | take f rest hq =>
    have hle : rest.length ≤ b.par.txqDepth := (Nat.le_succ _).trans (by simpa [hq] using h.txq_le)
    exact ⟨h.txbuf, h.rxbuf, h.evq_le, hle, fun g hg => h.txq_frames g (hq ▸ List.mem_cons_of_mem f hg)⟩
  | softReset n => exact (b.storageInv_resetAssign n).record _ _
  | reset n => exact b.storageInv_resetAssign n
  | linkRx f => exact (b.linkRx_arrival f).storageInv (h.cnt _)
  | invalidStruct sub => exact (ArrivalMove.invalidStruct sub).storageInv h
  | invalidCsum sc => exact (ArrivalMove.invalidCsum sc).storageInv h
  | ackMatch s hm => exact (ArrivalMove.ackMatch s hm).storageInv h
  | ackStale s hm => exact (ArrivalMove.ackStale s hm).storageInv h
  | accept s p hp hc => exact (ArrivalMove.accept s p hp hc).storageInv h
  | sinkBusy s hc => exact (ArrivalMove.sinkBusy s hc).storageInv h
  | duplicate s hc => exact (ArrivalMove.duplicate s hc).storageInv h
  | future s hc => exact (ArrivalMove.future s hc).storageInv h
  | tick =>
    rcases tick_cases b with ⟨-, he⟩ | ⟨-, -, he⟩ | ⟨hs, -, -, he⟩ | ⟨-, -, -, he⟩ <;> rw [he]
    · exact h.of_same rfl rfl rfl rfl rfl
    · exact h.of_same rfl rfl rfl rfl rfl
    · exact Block.StorageInv.expireRetransmit (h.of_same rfl rfl rfl rfl rfl) (hsend.retx hs) hsend.pendingLen_le
    · exact Block.StorageInv.expireFail (h.of_same rfl rfl rfl rfl rfl)
  | expireRetransmit hs _ _ => exact h.expireRetransmit (hsend.retx hs) hsend.pendingLen_le
  | expireFail => exact h.expireFail

/-! ### The block and the system -/

theorem BlockMove.inv {b b' : Block} (m : BlockMove b b') (h : b.Inv) : b'.Inv where
  sender := m.halves.sender.inv m.halves.par_eq h.sender
  receiver := m.halves.receiver.inv m.halves.par_eq h.receiver
  storage := m.storageInv h.sender h.storage

theorem State.inv_iff (s : State) : s.Inv ↔ ∀ blk, (s.block blk).Inv :=
  ⟨fun h blk => by cases blk; exacts [h.blockA, h.blockB], fun h => ⟨h .A, h .B⟩⟩

theorem exec_inv {i : Instr} {s t : State} (h : exec i s = .next t) (hs : s.Inv) : t.Inv :=
  (State.inv_iff t).2 fun blk => (exec_blockMove h blk).inv ((State.inv_iff s).1 hs blk)

end Sys2Proof.Machine
end

section
/-! SUPPORT. Which operations write HOSTFAULT (R50, R121). -/

namespace Sys2Proof.Machine

/-- Is this an access of a block that breaks the interface contract (R121)? -/
def breaksContract (blk : BlockId) : Instr → Bool
  | .hostRead k width off | .hostWrite k width off _ => k == blk && (hostFaultOf width off).isSome
  | _ => false

theorem hostFaultOf_isSome_iff {width : Byte} {off : Offset} :
    (hostFaultOf width off).isSome = true ↔ width ≠ 4 ∨ off.toNat % 4 ≠ 0 := by
  have halign : off.extractLsb' 0 2 = 0 ↔ off.toNat % 4 = 0 := by
    rw [BitVec.toNat_eq, BitVec.extractLsb'_toNat]; rfl
  unfold hostFaultOf
  split_ifs <;> simp_all

theorem breaksContract_iff {blk : BlockId} {i : Instr} :
    breaksContract blk i = true ↔
      (∃ width off, i = .hostRead blk width off ∧ (width ≠ 4 ∨ off.toNat % 4 ≠ 0)) ∨
      (∃ width off v, i = .hostWrite blk width off v ∧ (width ≠ 4 ∨ off.toNat % 4 ≠ 0)) := by
  cases i <;> simp [breaksContract, hostFaultOf_isSome_iff]

/-! ### What leaves HOSTFAULT as it was -/

/-- The rules that the ten commands run (R93). -/
inductive CommandRule : (Block → Except CmdError Block) → Prop
  | nop : CommandRule Block.nop
  | txStart : CommandRule Block.txStart
  | txSend (len : Half) (fill : Nat → Byte) : CommandRule (Block.txSend len fill)
  | txEnd : CommandRule Block.txEnd
  | txCancel : CommandRule Block.txCancel
  | rxReset : CommandRule Block.rxReset
  | rxRelease : CommandRule Block.rxRelease
  | evqPop : CommandRule Block.evqPop
  | clrCounters : CommandRule Block.clrCounters
  | softReset (n : Nat) : CommandRule (Block.softReset n)

theorem CommandRule.hostFault_eq {run : Block → Except CmdError Block} (hrule : CommandRule run) {b b' : Block}
    (h : run b = .ok b') : b'.hostFault = b.hostFault := by
  cases hrule with
  | nop | rxReset | clrCounters | softReset => cases h; rfl
  | txStart => obtain ⟨-, rfl⟩ := Block.txStart_ok h; rfl
  | txSend => obtain ⟨-, -, -, rfl⟩ := Block.txSend_ok h; simp [Block.sendFragment]
  | txEnd => obtain ⟨-, rfl⟩ := Block.txEnd_ok h; rfl
  | txCancel => obtain ⟨-, rfl⟩ := Block.txCancel_ok h; rfl
  | rxRelease => obtain ⟨-, rfl⟩ := Block.rxRelease_ok h; rfl
  | evqPop => obtain ⟨_, _, -, rfl⟩ := Block.evqPop_ok h; rfl

theorem CommandRule.issue_hostFault {run : Block → Except CmdError Block} (hrule : CommandRule run) {n : Nat}
    (op : Byte) (rsvd : BitVec n) (b : Block) : (b.issue op rsvd run).hostFault = b.hostFault := by
  rcases b.issue_cases op rsvd run with ⟨_, he⟩ | ⟨_, e, _, he⟩ | ⟨_, b', hr, he⟩
  · rw [he, Block.record_hostFault]
  · rw [he, Block.record_hostFault]
  · rw [he, Block.record_hostFault, hrule.hostFault_eq hr]

/-- COMMAND (R123) runs the rule of a command, or records an illegal opcode. -/
theorem Block.command_cases (w : Word) (fill : Nat → Byte) (n : Nat) (b : Block) :
    (∃ m, ∃ rsvd : BitVec m, ∃ run, CommandRule run ∧ b.command w fill n = b.issue (opcodeOf w) rsvd run) ∨
      b.command w fill n = b.record (opcodeOf w) (some .illegalOpcode) := by
  unfold Block.command
  split
  · exact .inl ⟨_, _, _, .nop, rfl⟩
  · exact .inl ⟨_, _, _, .txStart, rfl⟩
  · exact .inl ⟨_, _, _, .txSend _ _, rfl⟩
  · exact .inl ⟨_, _, _, .txEnd, rfl⟩
  · exact .inl ⟨_, _, _, .txCancel, rfl⟩
  · exact .inl ⟨_, _, _, .rxReset, rfl⟩
  · exact .inl ⟨_, _, _, .rxRelease, rfl⟩
  · exact .inl ⟨_, _, _, .evqPop, rfl⟩
  · exact .inl ⟨_, _, _, .clrCounters, rfl⟩
  · exact .inl ⟨_, _, _, .softReset n, rfl⟩
  · exact .inr rfl

@[simp] theorem Block.command_hostFault (w : Word) (fill : Nat → Byte) (n : Nat) (b : Block) :
    (b.command w fill n).hostFault = b.hostFault := by
  rcases b.command_cases w fill n with ⟨m, rsvd, run, hrule, he⟩ | he
  · rw [he, hrule.issue_hostFault]
  · rw [he, Block.record_hostFault]

theorem ArrivalMove.hostFault_eq {b b' : Block} (m : ArrivalMove b b') : b'.hostFault = b.hostFault := by
  cases m <;> simp [Block.rxInvalidStruct, Block.rxInvalidCsum, Block.rxAckMatch, Block.rxAckStale, Block.rxAccept,
    Block.rxSinkBusy, Block.rxDuplicate, Block.rxFuture, Block.sendAck]

@[simp] theorem Block.expireRetransmit_hostFault (b : Block) : b.expireRetransmit.hostFault = b.hostFault := by
  simp [Block.expireRetransmit]

@[simp] theorem Block.expireFail_hostFault (b : Block) : b.expireFail.hostFault = b.hostFault := by
  simp [Block.expireFail]

@[simp] theorem Block.tick_hostFault (b : Block) : b.tick.hostFault = b.hostFault := by
  rcases tick_cases b with ⟨-, he⟩ | ⟨-, -, he⟩ | ⟨-, -, -, he⟩ | ⟨-, -, -, he⟩ <;> simp [he]

/-! ### HOST_READ and HOST_WRITE -/

theorem Block.hostRead_hostFault (width : Byte) (off : Offset) (fill : Nat → Byte) (b : Block) :
    (b.hostRead width off fill).hostFault = (b.hostFault || (hostFaultOf width off).isSome) := by
  unfold Block.hostRead
  split <;> rename_i hf <;> simp [hf]

theorem Block.hostWrite_hostFault (width : Byte) (off : Offset) (v : Word) (fill : Nat → Byte) (n : Nat) (b : Block) :
    (b.hostWrite width off v fill n).hostFault = (b.hostFault || (hostFaultOf width off).isSome) := by
  unfold Block.hostWrite
  split <;> rename_i hf
  · simp [hf]
  · have hword : (b.writeWord off v fill n).hostFault = b.hostFault := by
      unfold Block.writeWord
      split
      · split
        · rename_i r _
          cases r <;> simp [Block.writeReg]
        · rfl
      all_goals rfl
    simp [hf, hword]

theorem State.onBlock_hostFault {s : State} {k : BlockId} {f : Block → Block} {bad : Bool}
    (hf : (f (s.block k)).hostFault = ((s.block k).hostFault || bad)) (blk : BlockId) :
    ((s.onBlock k f).block blk).hostFault = ((s.block blk).hostFault || (k == blk && bad)) := by
  by_cases hk : blk = k
  · subst hk; simpa [State.onBlock] using hf
  · simp [State.onBlock, State.block_setBlock_other s _ hk, Ne.symm hk]

theorem State.hostFault_kept {s : State} {k : BlockId} {f : Block → Block}
    (hf : (f (s.block k)).hostFault = (s.block k).hostFault) (blk : BlockId) :
    ((s.onBlock k f).block blk).hostFault = ((s.block blk).hostFault || false) := by
  simpa using State.onBlock_hostFault (bad := false) (by simpa using hf) blk

theorem CommandRule.hostFault_kept {run : Block → Except CmdError Block} (hrule : CommandRule run) {s : State}
    {k : BlockId} {n : Nat} {op : Byte} {rsvd : BitVec n} (blk : BlockId) :
    ((s.onBlock k (Block.issue op rsvd run)).block blk).hostFault = ((s.block blk).hostFault || false) :=
  State.hostFault_kept (hrule.issue_hostFault op rsvd _) blk

theorem State.block_withLink (s : State) (l : Link) (blk : BlockId) : { s with link := l }.block blk = s.block blk := by
  cases blk <;> rfl

@[simp] theorem State.block_admitFrame (d : Direction) (f : Frame) (s : State) (blk : BlockId) :
    (s.admitFrame d f).block blk = s.block blk := by
  obtain ⟨hA, hB, -⟩ := State.admit_blocks d f s
  cases blk
  · exact hA
  · exact hB

/-- HOSTFAULT after an operation (R50): what it was, or true after an access that breaks the contract. -/
theorem exec_hostFault {i : Instr} {s t : State} (h : exec i s = .next t) (blk : BlockId) :
    (t.block blk).hostFault = ((s.block blk).hostFault || breaksContract blk i) := by
  cases i with
  | hostRead k width off => cases h; exact State.onBlock_hostFault (Block.hostRead_hostFault ..) blk
  | hostWrite k width off v => cases h; exact State.onBlock_hostFault (Block.hostWrite_hostFault ..) blk
  | nop => cases h; exact CommandRule.hostFault_kept .nop blk
  | txStart => cases h; exact CommandRule.hostFault_kept .txStart blk
  | txSend => cases h; exact CommandRule.hostFault_kept (.txSend _ _) blk
  | txEnd => cases h; exact CommandRule.hostFault_kept .txEnd blk
  | txCancel => cases h; exact CommandRule.hostFault_kept .txCancel blk
  | rxReset => cases h; exact CommandRule.hostFault_kept .rxReset blk
  | rxRelease => cases h; exact CommandRule.hostFault_kept .rxRelease blk
  | evqPop => cases h; exact CommandRule.hostFault_kept .evqPop blk
  | clrCounters => cases h; exact CommandRule.hostFault_kept .clrCounters blk
  | softReset => cases h; exact CommandRule.hostFault_kept (.softReset _) blk
  | illegalOpcode => cases h; exact State.hostFault_kept rfl blk
  | linkRx k f => cases h; exact State.hostFault_kept (Block.linkRx_arrival f _).hostFault_eq blk
  | rxInvalid k f =>
    simp only [exec, execRxInvalid] at h
    split at h
    · cases h; exact State.hostFault_kept (ArrivalMove.invalidStruct _).hostFault_eq blk
    · cases h; exact State.hostFault_kept (ArrivalMove.invalidCsum _).hostFault_eq blk
    · cases h
  | rxAckMatch k f =>
    simp only [exec, execRxAckMatch] at h
    obtain ⟨seq, -, -, -, hc, rfl⟩ := onAck_next h
    exact State.hostFault_kept (ArrivalMove.ackMatch seq hc).hostFault_eq blk
  | rxAckStale k f =>
    simp only [exec, execRxAckStale] at h
    obtain ⟨seq, -, -, -, hc, rfl⟩ := onAck_next h
    exact State.hostFault_kept (ArrivalMove.ackStale seq (by simpa using hc)).hostFault_eq blk
  | rxData k f =>
    simp only [exec, execRxData] at h
    obtain ⟨seq, p, _, hv, -, rfl⟩ := onData_next h
    exact State.hostFault_kept (Block.rxData_arrival (frameDecode_valid hv).1).hostFault_eq blk
  | rxAccept k f =>
    simp only [exec, execRxAccept] at h
    obtain ⟨seq, p, _, hv, hc, rfl⟩ := onData_next h
    have hm := ArrivalMove.accept seq p (frameDecode_valid hv).1 (by simpa using hc)
    exact State.hostFault_kept hm.hostFault_eq blk
  | rxSinkBusy k f =>
    simp only [exec, execRxSinkBusy] at h
    obtain ⟨seq, -, -, -, hc, rfl⟩ := onData_next h
    exact State.hostFault_kept (ArrivalMove.sinkBusy seq (by simpa using hc)).hostFault_eq blk
  | rxDuplicate k f =>
    simp only [exec, execRxDuplicate] at h
    obtain ⟨seq, -, -, -, hc, rfl⟩ := onData_next h
    exact State.hostFault_kept (ArrivalMove.duplicate seq (by simpa using hc)).hostFault_eq blk
  | rxFuture k f =>
    simp only [exec, execRxFuture] at h
    obtain ⟨seq, -, -, -, hc, rfl⟩ := onData_next h
    exact State.hostFault_kept (ArrivalMove.future seq (by simpa using hc)).hostFault_eq blk
  | linkTake k =>
    simp only [exec, execLinkTake] at h
    split at h
    · cases h
    · cases h; rw [State.block_admitFrame]; exact State.hostFault_kept rfl blk
  | tick k =>
    simp only [exec, execTick] at h
    split at h
    · cases h; exact State.hostFault_kept (Block.tick_hostFault _) blk
    · cases h
  | expireRetransmit k =>
    simp only [exec, execExpireRetransmit] at h
    obtain ⟨-, -, -, -, rfl⟩ := onExpire_next h
    exact State.hostFault_kept (Block.expireRetransmit_hostFault _) blk
  | expireFail k =>
    simp only [exec, execExpireFail] at h
    obtain ⟨-, -, -, -, rfl⟩ := onExpire_next h
    exact State.hostFault_kept (Block.expireFail_hostFault _) blk
  | reset => cases h; exact State.hostFault_kept rfl blk
  | linkAdmit d f => cases h; simp [breaksContract]
  | linkDeliver d f =>
    simp only [exec, execLinkDeliver] at h
    split at h
    · cases h
      rw [State.hostFault_kept (Block.linkRx_arrival f _).hostFault_eq blk, State.block_withLink]; rfl
    · cases h
  | sysTick =>
    simp only [exec, execSysTick] at h
    split at h
    · cases h; cases blk <;> simp [breaksContract, State.sysTick, State.block]
    · cases h

end Sys2Proof.Machine
end

section
/-! PROOFS. The statements of 10_state.md. -/

namespace Sys2Proof.Machine

/-! ### Register reads -/

/-- R23: a legal read at the offset of a register returns the register's value. -/
theorem hostReads_reg (blk : BlockId) (s : State) (r : Reg) : HostReads blk s r.offset ((s.block blk).readReg r) := by
  have hfault : hostFaultOf 4 r.offset = none := by cases r with | counter c => cases c <;> rfl | _ => rfl
  have hregion : regionOf r.offset = .registers := by cases r with | counter c => cases c <;> rfl | _ => rfl
  have hreg : regAt r.offset = some r := by cases r with | counter c => cases c <;> rfl | _ => rfl
  simp only [HostReads, exec, execHostRead, State.onBlock_eq, Block.hostRead, hfault, Block.readWord, hregion, hreg]

/-- Settles O16: each offset is its register's, and each value is the register's own. -/
theorem registersReadTheirFields : Obligations.RegistersReadTheirFields := by
  rintro blk s b reads rfl rfl
  have reg := hostReads_reg blk s
  refine ⟨reg .id, reg .param, reg .cmd, reg .cmdStatus, reg .irqStatus, reg .irqEnable, reg .now, reg .version,
    reg .txStatus, reg .txNextSeq, reg .txPendingSeq, reg .txPendingLen, reg .txRetriesUsed, reg .txTimerRem,
    reg .txTimeout, reg .txMaxRetries, reg .rxStatus, reg .rxExpSeq, reg .rxDeliverSeq, reg .rxDeliverLen,
    reg .evqStatus, fun hq => ?empty, fun e rest hq => ?head, reg (.counter .txData), reg (.counter .retx),
    reg (.counter .txAck), reg (.counter .rxFrames), reg (.counter .decodeFail), reg (.counter .csumFail),
    reg (.counter .rxAccept), reg (.counter .rxDup), reg (.counter .rxFuture), reg (.counter .rxSinkBusy),
    reg (.counter .staleAck), reg (.counter .evqOverflow), reg (.counter .txqDrop), reg (.counter .matchAck)⟩
  all_goals
    have hhead := reg .evqHead
    have hseq := reg .evqHeadSeq
    simp only [Block.readReg, Block.evqHead, Block.evqHeadSeq, hq] at hhead hseq
    exact ⟨hhead, hseq⟩

/-! ### HOSTFAULT -/

/-- Settles O54: HOSTFAULT is raised by an access that breaks the contract, and otherwise kept. -/
theorem hostFaultIsSticky : Obligations.HostFaultIsSticky := by
  intro i s t blk h
  rw [exec_hostFault h blk]
  refine ⟨fun hset => by rw [hset, Bool.true_or], fun hclear hset => ?_⟩
  rw [hclear, Bool.false_or] at hset
  exact breaksContract_iff.1 hset

/-! ### The sender session -/

/-- Settles O52: of the moves of the sender session only TX_START, a matching ACK and a reset write NEXT_SEQ. -/
theorem nextSeqMovesByOnePerMatchedAck : Obligations.NextSeqMovesByOnePerMatchedAck := by
  rintro i s t blk b b' h rfl rfl
  cases (exec_blockMove h blk).halves.sender with
  | start _ _ hs | reset _ _ _ _ hs =>
    obtain ⟨hst, hns, hpv, -⟩ := hs
    exact .inr (.inl ⟨hns, hst, hpv⟩)
  | ack ha hm hs =>
    obtain ⟨hst, hns, -⟩ := hs
    exact .inr (.inr ⟨hns, ha, hst, hm⟩)
  | keep hs | fillTxbuf _ _ hs | send _ _ _ _ _ hs | finish _ hs | cancel _ _ hs | countDown _ hs
  | retransmit _ _ hs | giveUp _ _ hs =>
    obtain ⟨-, hns, -⟩ := hs
    exact .inl hns

/-- Settles O55: every move that writes RETX, PENDING_SEQ, PENDING_LEN or NEXT_SEQ starts or ends outside
AWAITING_ACK. -/
theorem pendingFrameNeverChanges : Obligations.PendingFrameNeverChanges := by
  intro i s t blk h hbefore hafter
  cases (exec_blockMove h blk).halves.sender with
  | keep hs | fillTxbuf _ _ hs | countDown _ hs | retransmit _ _ hs =>
    obtain ⟨-, hns, -, hps, hpl, -, -, -, hrx, -⟩ := hs
    exact ⟨hrx, hps, hpl, hns⟩
  | start hne => exact absurd hbefore hne
  | send _ _ hidle | finish hidle => cases hbefore.symm.trans hidle
  | cancel _ _ hs | ack _ _ hs | giveUp _ _ hs | reset _ _ _ _ hs =>
    obtain ⟨hst, -⟩ := hs
    cases hafter.symm.trans hst

/-- Settles O56: TX_SEND, a retransmission and a reset are the moves that write one of the three registers. -/
theorem pendingRegistersKeepTheirValues : Obligations.PendingRegistersKeepTheirValues := by
  rintro i s t blk b b' h rfl rfl
  cases (exec_blockMove h blk).halves.sender with
  | keep hs | fillTxbuf _ _ hs | start _ _ hs | finish _ hs | cancel _ _ hs | ack _ _ hs | countDown _ hs
  | giveUp _ _ hs =>
    obtain ⟨-, -, -, hps, hpl, hru, -⟩ := hs
    exact .inl ⟨hps, hpl, .inl hru⟩
  | retransmit ha hr hs =>
    obtain ⟨hst, -, -, hps, hpl, hru, -⟩ := hs
    obtain ⟨est, eps, epl, hadd, hle⟩ := Block.expireRetransmit_pending hr
    rw [← hru] at hadd hle
    exact .inl ⟨hps.trans eps, hpl.trans epl, .inr ⟨ha, (hst.trans est).trans ha, hadd, hle⟩⟩
  | send len fill hidle hlen _ hs =>
    obtain ⟨hst, -, -, hps, hpl, hru, -⟩ := hs
    exact .inr (.inl ⟨hidle, hst, hps, hpl ▸ hlen, hru⟩)
  | reset n hq he hc hs =>
    obtain ⟨hst, hns, -, hps, hpl, hru, -⟩ := hs
    exact .inr (.inr ⟨hst, hns, hps, hpl, hru, hq, he, hc⟩)

/-! ### The receiver session -/

/-- Settles O53: of the moves of the receiver session only RX_ACCEPT, RX_RESET and a reset write DELIVERED or
EXP_SEQ. -/
theorem deliveredIsAppendOnly : Obligations.DeliveredIsAppendOnly := by
  rintro i s t blk b b' h rfl rfl
  cases (exec_blockMove h blk).halves.receiver with
  | keep hs | release _ hs =>
    obtain ⟨hes, -, -, -, -, hd⟩ := hs
    exact .inl ⟨hd, hes⟩
  | restart _ hs | reset _ _ _ _ hs =>
    obtain ⟨hes, -, -, -, -, hd⟩ := hs
    exact .inr (.inl ⟨hd, hes⟩)
  | accept seq p hp hc hs =>
    obtain ⟨hes, hdv, hds, -, -, hd⟩ := hs
    obtain ⟨hseq, hfree⟩ := Block.classify_eq_accept_iff.1 hc
    exact .inr (.inr ⟨p, hd, hes, hfree, hdv, (congrArg BitVec.toNat hds).trans hseq, hp⟩)

/-! ### The invariant -/

/-- Settles O59: a step is idle, or an operation in a state with the same blocks. -/
theorem stepKeepsTheInvariant : Obligations.StepKeepsTheInvariant := by
  intro s t hs h
  rcases step_next h with ⟨-, rfl⟩ | ⟨r, rest, i, -, -, -, hexec⟩
  · exact hs
  · exact exec_inv hexec ⟨hs.blockA, hs.blockB⟩

end Sys2Proof.Machine
end

section
/-! PROOFS. The statements of 20_memory.md. -/

namespace Sys2Proof.Machine

/-- Settles O13: the two cases of `emit_frame` exclude each other by the room in TXQ. -/
theorem emitFrameAppendsOrDrops : Obligations.EmitFrameAppendsOrDrops := by
  intro b f
  rcases b.emitFrame_cases f with ⟨hroom, happend⟩ | ⟨hfull, hdrop⟩
  · exact ⟨fun _ => happend, fun hfull => absurd hroom hfull.not_gt⟩
  · exact ⟨fun hroom => absurd hroom hfull.not_gt, fun _ => hdrop⟩

/-! ### Register writes -/

/-- R23: the offset of a register is aligned, lies in the register space, and names that register. -/
theorem Reg.offset_decodes (r : Reg) :
    hostFaultOf 4 r.offset = none ∧ regionOf r.offset = .registers ∧ regAt r.offset = some r := by
  cases r with
  | counter c => cases c <;> exact ⟨rfl, rfl, rfl⟩
  | _ => exact ⟨rfl, rfl, rfl⟩

/-- R122: a legal write at the offset of a register is the write of that register. -/
theorem exec_hostWrite_reg (blk : BlockId) (s : State) (r : Reg) (v : Word) :
    exec (.hostWrite blk 4 r.offset v) s =
      .next (s.setBlock blk ((s.block blk).writeReg r v s.fill s.draws)) := by
  obtain ⟨hfault, hregion, hreg⟩ := r.offset_decodes
  simp only [exec, execHostWrite, State.onBlock_eq, Block.hostWrite, hfault, Block.writeWord, hregion, hreg]

/-- R78: the host reads from a register what the write it made before left there. -/
theorem hostRead_after_hostWrite {blk : BlockId} {s : State} {r : Reg} {v w : Word}
    (hw : ((s.block blk).writeReg r v s.fill s.draws).readReg r = w) :
    ∃ t u, exec (.hostWrite blk 4 r.offset v) s = .next t ∧ exec (.hostRead blk 4 r.offset) t = .next u ∧
      (u.block blk).readData = w := by
  refine ⟨_, _, exec_hostWrite_reg blk s r v, hostReads_reg blk _ r, ?_⟩
  simpa using hw

/-- A field of the low `k` bits reads back as the value under its mask. -/
theorem setWidth_extractLsb'_zero {n : Nat} (k : Nat) (hk : k ≤ n) (v : BitVec n) :
    (v.extractLsb' 0 k).setWidth n = v &&& BitVec.ofNat n (2 ^ k - 1) := by
  have hpow : 2 ^ k ≤ 2 ^ n := Nat.pow_le_pow_right (by decide) hk
  have hpos : 0 < 2 ^ k := Nat.two_pow_pos k
  apply BitVec.eq_of_toNat_eq
  rw [BitVec.toNat_and, BitVec.toNat_ofNat, Nat.mod_eq_of_lt (by omega : 2 ^ k - 1 < 2 ^ n),
    Nat.and_two_pow_sub_one_eq_mod, BitVec.toNat_setWidth_of_le hk, BitVec.extractLsb'_toNat, Nat.shiftRight_zero]

/-- Settles O24: each of the three registers keeps the low bits of the write, and reads as them. -/
theorem readAfterWriteReturnsTheValue : Obligations.ReadAfterWriteReturnsTheValue := by
  intro blk s v
  obtain ⟨t1, u1, hw1, hr1, hv1⟩ := hostRead_after_hostWrite (s := s) (blk := blk) (r := .txTimeout) (v := v) rfl
  obtain ⟨t2, u2, hw2, hr2, hv2⟩ := hostRead_after_hostWrite (s := s) (blk := blk) (r := .txMaxRetries)
    (setWidth_extractLsb'_zero 16 (by decide) v)
  obtain ⟨t3, u3, hw3, hr3, hv3⟩ := hostRead_after_hostWrite (s := s) (blk := blk) (r := .irqEnable)
    (setWidth_extractLsb'_zero 5 (by decide) v)
  exact ⟨t1, t2, t3, u1, u2, u3, hw1, hr1, hv1, hw2, hr2, hv2, hw3, hr3, hv3⟩

end Sys2Proof.Machine
end

section
/-! SUPPORT. Laws of the encoding: each operand form (the lanes of a word, the fields of a command word, the byte of a
block or a direction, the two bytes of an offset) is read back as it was written, and each part of the decoder accepts
only what the encoder writes. -/

namespace Sys2Proof.Machine

/-! ### The lanes of a word and the fields of a command word -/

@[simp] theorem lanesOf_wordOfLanes (b0 b1 b2 b3 : Byte) : lanesOf (wordOfLanes b0 b1 b2 b3) = [b0, b1, b2, b3] := by
  simp only [lanesOf, wordOfLanes, BitVec.extractLsb'_append_eq_ite]
  simp

@[simp] theorem wordOfLanes_extractLsb' (v : Word) :
    wordOfLanes (v.extractLsb' 0 8) (v.extractLsb' 8 8) (v.extractLsb' 16 8) (v.extractLsb' 24 8) = v := by
  simp only [wordOfLanes, BitVec.extractLsb'_append_extractLsb'_eq_extractLsb']
  exact BitVec.extractLsb'_eq_self

@[simp] theorem opcodeOf_commandWord (op : Byte) (rsvd : BitVec 24) : opcodeOf (commandWord op rsvd) = op :=
  BitVec.extractLsb'_append_eq_right

@[simp] theorem reservedOf_commandWord (op : Byte) (rsvd : BitVec 24) : reservedOf (commandWord op rsvd) = rsvd :=
  BitVec.extractLsb'_append_eq_left

@[simp] theorem opcodeOf_sendWord (len : Half) (rsvd : Byte) : opcodeOf (sendWord len rsvd) = 0x02 :=
  BitVec.extractLsb'_append_eq_right

@[simp] theorem sendReservedOf_sendWord (len : Half) (rsvd : Byte) : sendReservedOf (sendWord len rsvd) = rsvd :=
  (BitVec.extractLsb'_append_eq_of_le (by decide)).trans BitVec.extractLsb'_append_eq_right

@[simp] theorem lenOf_sendWord (len : Half) (rsvd : Byte) : lenOf (sendWord len rsvd) = len :=
  (BitVec.extractLsb'_append_eq_of_le (by decide)).trans BitVec.extractLsb'_append_eq_left

/-- R92: a command word is its opcode and bits [31:8]. -/
theorem commandWord_opcodeOf {w : Word} {op : Byte} (h : opcodeOf w = op) : commandWord op (reservedOf w) = w := by
  subst h
  exact BitVec.extractLsb'_append_extractLsb' (w := 24) (len := 8)

/-- R92, R94: the word of TX_SEND is LEN, bits [15:8] and the opcode. -/
theorem sendWord_lenOf {w : Word} (h : opcodeOf w = 0x02) : sendWord (lenOf w) (sendReservedOf w) = w := by
  simp only [sendWord, ← h, lenOf, sendReservedOf, opcodeOf, BitVec.extractLsb'_append_extractLsb'_eq_extractLsb']
  exact BitVec.extractLsb'_eq_self

end Sys2Proof.Machine

namespace Sys2Proof

open Machine

/-! ### The command word -/

/-- R93, R99: an opcode from 0x0A on is illegal, whatever the other bits hold. -/
theorem decodeCommand_of_illegal (blk : BlockId) {w : Word} (h : 0x0A ≤ (opcodeOf w).toNat) :
    decodeCommand blk w = .illegalOpcode blk w := by
  unfold decodeCommand
  split
  case h_11 => rfl
  all_goals omega

/-- R93: every word with the opcode of TX_SEND is TX_SEND. -/
theorem decodeCommand_of_send (blk : BlockId) {w : Word} (h : opcodeOf w = 0x02) :
    decodeCommand blk w = .txSend blk (lenOf w) (sendReservedOf w) := by
  rw [decodeCommand, h]
  rfl

/-- The check of an illegal-opcode operation is the check of its opcode (R99). -/
theorem opcodeIllegal_iff {w : Word} : opcodeIllegal w = true ↔ 0x0A ≤ (opcodeOf w).toNat := by
  rw [opcodeIllegal, decide_eq_true_iff, opcodeOf, BitVec.setWidth_eq_extractLsb' (by decide)]

/-- Each command word spells the one operation that it decodes to (R92, R93). -/
theorem encode_decodeCommand (blk : BlockId) (w : Word) :
    encode (decodeCommand blk w) = encodeCommand blk w ∧ (decodeCommand blk w).wellFormed = true := by
  unfold decodeCommand
  split
  case h_3 hop => exact ⟨congrArg (encodeCommand blk) (sendWord_lenOf (BitVec.eq_of_toNat_eq hop)), rfl⟩
  case h_11 =>
    refine ⟨rfl, opcodeIllegal_iff.2 ?_⟩
    simp only [imp_false] at *
    omega
  all_goals
    rename_i hop
    exact ⟨congrArg (encodeCommand blk) (commandWord_opcodeOf (BitVec.eq_of_toNat_eq hop)), rfl⟩

/-! ### The byte of a block or a direction, and the bytes of an offset -/

@[simp] theorem decodeBlock_encodeBlock (blk : BlockId) : decodeBlock (encodeBlock blk) = .ok blk := by
  cases blk <;> rfl

@[simp] theorem decodeDirection_encodeDirection (d : Direction) : decodeDirection (encodeDirection d) = .ok d := by
  cases d <;> rfl

theorem encodeBlock_of_decodeBlock {b : Byte} {blk : BlockId} (h : decodeBlock b = .ok blk) : encodeBlock blk = b := by
  unfold decodeBlock at h
  split at h <;> cases h <;> rename_i hb
  all_goals exact (BitVec.eq_of_toNat_eq hb).symm

theorem encodeDirection_of_decodeDirection {b : Byte} {d : Direction} (h : decodeDirection b = .ok d) :
    encodeDirection d = b := by
  unfold decodeDirection at h
  split at h <;> cases h <;> rename_i hb
  all_goals exact (BitVec.eq_of_toNat_eq hb).symm

@[simp] theorem decodeOffset_encodeOffset (off : Offset) :
    decodeOffset (off.extractLsb' 0 8) (0#2 ++ off.extractLsb' 8 6) = .ok off := by
  have htop : (0#2 ++ off.extractLsb' 8 6).extractLsb' 6 2 = 0 := BitVec.extractLsb'_append_eq_left
  have hlow : (0#2 ++ off.extractLsb' 8 6).extractLsb' 0 6 = off.extractLsb' 8 6 :=
    BitVec.extractLsb'_append_eq_right
  rw [decodeOffset, if_pos htop, hlow]
  exact congrArg Except.ok (BitVec.extractLsb'_append_extractLsb' (w := 6) (len := 8))

theorem encodeOffset_of_decodeOffset {lo hi : Byte} {off : Offset} (h : decodeOffset lo hi = .ok off) :
    encodeOffset off = [lo, hi] := by
  unfold decodeOffset at h
  split at h
  case isFalse => cases h
  case isTrue htop =>
    cases h
    have hlo : (hi.extractLsb' 0 6 ++ lo).extractLsb' 0 8 = lo := BitVec.extractLsb'_append_eq_right
    have hhi : (0 : BitVec 2) ++ (hi.extractLsb' 0 6 ++ lo).extractLsb' 8 6 = hi := by
      rw [BitVec.extractLsb'_append_eq_left, ← htop]
      exact BitVec.extractLsb'_append_extractLsb' (w := 2) (len := 6)
    rw [encodeOffset, hlo, hhi]

/-! ### The parts of the decoder -/

/-- A decoder in two steps accepts what both accept. -/
theorem bind_eq_ok {ε α β : Type} {x : Except ε α} {f : α → Except ε β} {y : β} (h : x.bind f = .ok y) :
    ∃ a, x = .ok a ∧ f a = .ok y := by
  cases x with
  | error e => cases h
  | ok a => exact ⟨a, rfl, h⟩

theorem map_eq_ok {ε α β : Type} {x : Except ε α} {f : α → β} {y : β} (h : x.map f = .ok y) :
    ∃ a, x = .ok a ∧ f a = y := by
  cases x with
  | error e => cases h
  | ok a => cases h; exact ⟨a, rfl, rfl⟩

section
variable {blk : BlockId} {rest : List Byte} {i j : Instr}

theorem decodeHostRead_ok (h : decodeHostRead blk rest = .ok i) :
    ∃ width off, rest = width :: encodeOffset off ∧ i = .hostRead blk width off := by
  unfold decodeHostRead at h
  split at h
  next width lo hi =>
    obtain ⟨off, hoff, rfl⟩ := map_eq_ok h
    exact ⟨width, off, by rw [encodeOffset_of_decodeOffset hoff], rfl⟩
  next => cases h

theorem decodeHostWrite_ok (h : decodeHostWrite blk rest = .ok i) :
    ∃ width off data, rest = width :: (encodeOffset off ++ lanesOf data) ∧ i = .hostWrite blk width off data := by
  unfold decodeHostWrite at h
  split at h
  next width lo hi w0 w1 w2 w3 =>
    obtain ⟨off, hoff, rfl⟩ := map_eq_ok h
    exact ⟨width, off, _, by rw [encodeOffset_of_decodeOffset hoff, lanesOf_wordOfLanes]; rfl, rfl⟩
  next => cases h

theorem decodeCommandBytes_ok (h : decodeCommandBytes blk rest = .ok i) :
    ∃ w, rest = lanesOf w ∧ i = decodeCommand blk w := by
  unfold decodeCommandBytes at h
  split at h
  next w0 w1 w2 w3 =>
    cases h
    exact ⟨_, (lanesOf_wordOfLanes w0 w1 w2 w3).symm, rfl⟩
  next => cases h

theorem decodeStrobe_ok (h : decodeStrobe j rest = .ok i) : rest = [] ∧ i = j := by
  cases rest with
  | nil => cases h; exact ⟨rfl, rfl⟩
  | cons => cases h

theorem decodeKind_ok {k : Byte} {f : Frame} (h : decodeKind k f j = .ok i) : hasKind k f = true ∧ i = j := by
  unfold decodeKind at h
  split at h
  case isTrue hk => cases h; exact ⟨hk, rfl⟩
  case isFalse => cases h

/-- A row with a tag and an agent is the encoding of what it decodes to. -/
theorem encode_of_decodeTagged {tag : Nat} {agent : Byte} (h : decodeTagged tag agent rest = .ok i) :
    encode i = BitVec.ofNat 8 tag :: agent :: rest ∧ i.wellFormed = true := by
  unfold decodeTagged at h
  split at h
  case h_20 | h_21 => cases h
  case h_18 | h_19 =>
    obtain ⟨d, hd, rfl⟩ := map_eq_ok h
    cases encodeDirection_of_decodeDirection hd
    exact ⟨rfl, rfl⟩
  case h_4 | h_5 =>
    obtain ⟨b, hb, rfl⟩ := map_eq_ok h
    cases encodeBlock_of_decodeBlock hb
    exact ⟨rfl, rfl⟩
  all_goals
    obtain ⟨b, hb, hrow⟩ := bind_eq_ok h
    cases encodeBlock_of_decodeBlock hb
  case h_1 =>
    obtain ⟨width, off, rfl, rfl⟩ := decodeHostRead_ok hrow
    exact ⟨rfl, rfl⟩
  case h_2 =>
    obtain ⟨width, off, data, rfl, rfl⟩ := decodeHostWrite_ok hrow
    exact ⟨rfl, rfl⟩
  case h_3 =>
    obtain ⟨w, rfl, rfl⟩ := decodeCommandBytes_ok hrow
    exact encode_decodeCommand b w
  case h_6 | h_7 | h_8 | h_9 | h_10 | h_11 | h_12 =>
    obtain ⟨hk, rfl⟩ := decodeKind_ok hrow
    exact ⟨rfl, hk⟩
  case h_13 | h_14 | h_15 | h_16 | h_17 =>
    obtain ⟨rfl, rfl⟩ := decodeStrobe_ok hrow
    exact ⟨rfl, rfl⟩

end

/-- The record of a well-formed operation decodes to it. -/
theorem decode_encode {i : Instr} (h : i.wellFormed = true) : decode (encode i) = .ok i := by
  cases i with
  | hostRead => simp [encode, encodeOffset, decode, decodeTagged, decodeHostRead, Except.bind, Except.map]
  | hostWrite => simp [encode, encodeOffset, lanesOf, decode, decodeTagged, decodeHostWrite, Except.bind, Except.map]
  | nop | txStart | txSend | txEnd | txCancel | rxReset | rxRelease | evqPop | clrCounters | softReset =>
    simp [encode, encodeCommand, lanesOf, decode, decodeTagged, decodeCommandBytes, decodeCommand, Except.bind]
  | illegalOpcode blk w =>
    have hword := decodeCommand_of_illegal blk (opcodeIllegal_iff.1 h)
    simp [encode, encodeCommand, lanesOf, decode, decodeTagged, decodeCommandBytes, hword, Except.bind]
  | linkRx | rxInvalid | linkAdmit | linkDeliver => simp [encode, decode, decodeTagged, Except.map]
  | rxAckMatch | rxAckStale | rxData | rxAccept | rxSinkBusy | rxDuplicate | rxFuture =>
    simpa [encode, decode, decodeTagged, decodeKind, Except.bind, Instr.wellFormed] using h
  | linkTake | tick | expireRetransmit | expireFail | reset =>
    simp [encode, decode, decodeTagged, decodeStrobe, Except.bind]
  | sysTick => rfl

/-- A record that decodes is the record of a well-formed operation. -/
theorem encode_of_decode {r : OpRecord} {i : Instr} (h : decode r = .ok i) : encode i = r ∧ i.wellFormed = true := by
  match r with
  | [] => cases h
  | [tag] =>
    rw [decode] at h
    split_ifs at h with htag
    cases h
    exact ⟨by rw [htag]; rfl, rfl⟩
  | tag :: agent :: rest => simpa using encode_of_decodeTagged h

end Sys2Proof

namespace Sys2Proof.Machine

/-! ### The commands that a word runs (R123) -/

/-- An error leaves the block as it was, but for CMD_STATUS and IRQ_STATUS.CMD_ERR (R124, R270). -/
theorem Block.record_error (op : Byte) (e : CmdError) (b : Block) :
    b.record op (some e) = b.withError op (resultCode (some e)) := rfl

theorem Block.issue_of_reserved {n : Nat} {op : Byte} {rsvd : BitVec n} {run : Block → Except CmdError Block}
    {b : Block} (h : rsvd ≠ 0) : b.issue op rsvd run = b.withError op 0x05 := by
  rw [Block.issue, if_neg h, Block.record_error]; rfl

section
variable {w : Word} {fill : Nat → Byte} {n : Nat} {b : Block}

/-- R99, step 1. -/
theorem Block.command_of_illegal (h : 0x0A ≤ (opcodeOf w).toNat) :
    b.command w fill n = b.withError (opcodeOf w) 0x01 := by
  unfold Block.command
  split
  case h_11 => rfl
  all_goals omega

theorem Block.command_of_send (h : opcodeOf w = 0x02) :
    b.command w fill n = b.issue 0x02 (sendReservedOf w) (Block.txSend (lenOf w) fill) := by
  rw [Block.command, h]
  rfl

/-- R99, step 2, for TX_SEND. -/
theorem Block.command_of_sendReserved (h : opcodeOf w = 0x02) (hr : sendReservedOf w ≠ 0) :
    b.command w fill n = b.withError 0x02 0x05 := by
  rw [Block.command_of_send h, Block.issue_of_reserved hr]

/-- R99, step 2, for the commands without operands. -/
theorem Block.command_of_reserved (hlegal : (opcodeOf w).toNat ≤ 0x09) (hsend : opcodeOf w ≠ 0x02)
    (hr : reservedOf w ≠ 0) : b.command w fill n = b.withError (opcodeOf w) 0x05 := by
  unfold Block.command
  split
  case h_3 hop => exact absurd (BitVec.eq_of_toNat_eq hop) hsend
  case h_11 =>
    simp only [imp_false] at *
    omega
  all_goals exact Block.issue_of_reserved hr

end

/-- The operation that a word decodes to is COMMAND of that word (R123). -/
theorem exec_decodeCommand (blk : BlockId) (w : Word) (s : State) :
    exec (decodeCommand blk w) s = .next (s.setBlock blk ((s.block blk).command w s.fill s.draws)) := by
  by_cases hill : 0x0A ≤ (opcodeOf w).toNat
  · rw [decodeCommand_of_illegal blk hill, Block.command_of_illegal hill]
    rfl
  · have hopcode : opcodeOf w = BitVec.ofNat 8 (opcodeOf w).toNat := by simp
    interval_cases (opcodeOf w).toNat
    all_goals
      rw [decodeCommand, Block.command, hopcode]
      rfl

end Sys2Proof.Machine
end

section
/-! PROOFS. The statements of 30_encoding.md. -/

namespace Sys2Proof.Machine

/-- Settles O1: each operand form is read back as it was written. -/
theorem decodeOfEncodeIsIdentity : Obligations.DecodeOfEncodeIsIdentity := fun _ => decode_encode

/-- Settles O2: each part of the decoder accepts only what the encoder writes. -/
theorem encodeOfDecodeIsIdentity : Obligations.EncodeOfDecodeIsIdentity := fun _ _ => encode_of_decode

/-- Settles O19: the operation of a word is COMMAND, which checks the opcode and then the reserved bits. -/
theorem commandWordChecksComeFirst : Obligations.CommandWordChecksComeFirst := by
  rintro blk s b w rfl
  rw [exec_decodeCommand]
  refine ⟨fun hill => ?_, fun hlegal hsend hr => ?_, fun hsend hr => ?_⟩
  · rw [Block.command_of_illegal hill, opcodeOf]
  · rw [Block.command_of_reserved hlegal hsend hr, opcodeOf]
  · rw [Block.command_of_sendReserved hsend hr]

/-- Settles O3: bits [7:0] of the word choose the row of the map. -/
theorem commandWordsFollowTheOpcodeMap : Obligations.CommandWordsFollowTheOpcodeMap := by
  refine fun blk => ⟨rfl, rfl, fun w hw => ?send, rfl, rfl, rfl, rfl, rfl, rfl, rfl, fun w hill => ?illegal⟩
  case send =>
    have hop : opcodeOf w = (w.extractLsb' 0 16).extractLsb' 0 8 :=
      (BitVec.extractLsb'_extractLsb'_of_le (by decide)).symm
    have hrsvd : sendReservedOf w = (w.extractLsb' 0 16).extractLsb' 8 8 :=
      (BitVec.extractLsb'_extractLsb'_of_le (by decide)).symm
    rw [hw] at hop hrsvd
    rw [decodeCommand_of_send blk hop, hrsvd]
    rfl
  case illegal => exact decodeCommand_of_illegal blk hill

/-- Settles O4: the decoder computes on the bytes as they stand. -/
theorem sampleRecordsDecode : Obligations.SampleRecordsDecode := ⟨rfl, rfl, rfl, rfl, rfl, rfl, rfl⟩

end Sys2Proof.Machine
end

section
/-! SUPPORT. Laws of the host interface: what HOST_READ and HOST_WRITE do in each region of the offset range (R23, R120,
R122), and how a command ends whose reserved bits are 0 (R99, R123). -/

namespace Sys2Proof.Machine

/-! ### The regions of the offset range -/

section
variable {off : Offset}

theorem regionOf_registers (hhi : off.toNat < 0x1000) : regionOf off = .registers := by
  rw [regionOf, if_pos hhi]

theorem regionOf_txWindow (hlo : 0x1000 ≤ off.toNat) (hhi : off.toNat < 0x2000) :
    regionOf off = .txWindow (off.toNat - 0x1000) := by
  rw [regionOf, if_neg hlo.not_gt, if_pos hhi]

theorem regionOf_rxWindow (hlo : 0x2000 ≤ off.toNat) (hhi : off.toNat < 0x3000) :
    regionOf off = .rxWindow (off.toNat - 0x2000) := by
  rw [regionOf, if_neg (by omega), if_neg hlo.not_gt, if_pos hhi]

theorem regionOf_hole (hlo : 0x3000 ≤ off.toNat) : regionOf off = .hole := by
  rw [regionOf, if_neg (by omega), if_neg (by omega), if_neg hlo.not_gt]

/-- R23: the map lists a register at its own offset only. -/
theorem offset_of_regAt {r : Reg} (h : regAt off = some r) : off = r.offset := by
  unfold regAt at h
  split at h <;> cases h
  all_goals
    rename_i hoff
    exact BitVec.eq_of_toNat_eq hoff

theorem regAt_eq_none (h : ∀ r : Reg, off ≠ r.offset) : regAt off = none :=
  Option.eq_none_iff_forall_ne_some.2 fun r hr => h r (offset_of_regAt hr)

theorem hostFaultOf_of_aligned (h : off.toNat % 4 = 0) : hostFaultOf 4 off = none := by
  rw [← Option.not_isSome_iff_eq_none, hostFaultOf_isSome_iff]
  simpa using h

/-! ### HOST_READ -/

variable {b : Block} {fill : Nat → Byte}

theorem Block.readWord_txWindow (hlo : 0x1000 ≤ off.toNat) (hhi : off.toNat < 0x2000) :
    b.readWord off fill = Memory.windowWord b.par.maxPayload fill b.txbuf (off.toNat - 0x1000) := by
  simp only [Block.readWord, regionOf_txWindow hlo hhi]

theorem Block.readWord_rxWindow (hlo : 0x2000 ≤ off.toNat) (hhi : off.toNat < 0x3000) :
    b.readWord off fill = Memory.windowWord b.par.maxPayload fill b.rxbuf (off.toNat - 0x2000) := by
  simp only [Block.readWord, regionOf_rxWindow hlo hhi]

/-- R23: what is neither a register nor in a buffer window reads as 0. -/
theorem Block.readWord_unmapped (h : (∀ r : Reg, off ≠ r.offset) ∧ off.toNat < 0x1000 ∨ 0x3000 ≤ off.toNat) :
    b.readWord off fill = 0 := by
  rcases h with ⟨hreg, hhi⟩ | hlo
  · simp only [Block.readWord, regionOf_registers hhi, regAt_eq_none hreg]
  · simp only [Block.readWord, regionOf_hole hlo]

/-! ### HOST_WRITE -/

variable {v : Word} {n : Nat}

theorem Block.writeWord_txWindow (hlo : 0x1000 ≤ off.toNat) (hhi : off.toNat < 0x2000) :
    b.writeWord off v fill n =
      { b with txbuf := Memory.storeBelow b.par.maxPayload (off.toNat - 0x1000) (lanesOf v) b.txbuf } := by
  simp only [Block.writeWord, regionOf_txWindow hlo hhi]

/-- R23: CMD, IRQ_STATUS and the three RW registers are the only ones that a write reaches. -/
theorem Block.writeReg_ignored {r : Reg} (h : r.offset.toNat ∉ [0x008, 0x010, 0x014, 0x038, 0x03C]) :
    b.writeReg r v fill n = b := by
  cases r with
  | cmd | irqStatus | irqEnable | txTimeout | txMaxRetries => exact absurd (by decide) h
  | _ => rfl

/-- R122: outside the TXBUF window a write reaches the five writable registers only. -/
theorem Block.writeWord_ignored (hspace : off.toNat < 0x1000 ∨ 0x2000 ≤ off.toNat)
    (h : off.toNat ∉ [0x008, 0x010, 0x014, 0x038, 0x03C]) : b.writeWord off v fill n = b := by
  rcases hspace with hhi | hlo
  · simp only [Block.writeWord, regionOf_registers hhi]
    split
    next r hr => exact Block.writeReg_ignored (offset_of_regAt hr ▸ h)
    next => rfl
  · rcases lt_or_ge off.toNat 0x3000 with hhi | hhi
    · simp only [Block.writeWord, regionOf_rxWindow hlo hhi]
    · simp only [Block.writeWord, regionOf_hole hhi]

end

/-- R72: the byte lanes of a word, by their number. -/
theorem getElem?_lanesOf (v : Word) {i : Nat} (h : i < 4) : (lanesOf v)[i]? = some (v.extractLsb' (8 * i) 8) := by
  interval_cases i <;> rfl

/-- R72, R122: a byte of a buffer after a word is stored in its window. -/
theorem Memory.load?_storeBelow_lanesOf (limit j k : Nat) (v : Word) (m : Memory) :
    Memory.load? (Memory.storeBelow limit j (lanesOf v) m) k =
      if j ≤ k ∧ k < j + 4 ∧ k < limit then some (v.extractLsb' (8 * (k - j)) 8) else Memory.load? m k := by
  rw [Memory.load?_storeBelow]
  refine ite_congr rfl (fun hk => getElem?_lanesOf v ?_) fun _ => rfl
  omega

/-! ### The accesses as operations -/

/-- An operation of one block, by what it makes of that block. -/
theorem next_onBlock {blk : BlockId} {s : State} {f : Block → Block} {b : Block} (h : f (s.block blk) = b) :
    (.next (s.onBlock blk f) : StepOutcome) = .next (s.setBlock blk b) := by
  rw [State.onBlock_eq, h]

section
variable {blk : BlockId} {s : State} {width : Byte} {off : Offset}

theorem exec_hostRead_of_fault (h : width ≠ 4 ∨ off.toNat % 4 ≠ 0) :
    exec (.hostRead blk width off) s =
      .next (s.setBlock blk { s.block blk with hostFault := true, readData := unspecifiedWord s.fill }) := by
  obtain ⟨reason, hf⟩ := Option.isSome_iff_exists.1 (hostFaultOf_isSome_iff.2 h)
  exact next_onBlock (by simp only [Block.hostRead, hf, Block.raiseHostFault])

theorem hostReads_of_aligned (h : off.toNat % 4 = 0) : HostReads blk s off ((s.block blk).readWord off s.fill) :=
  next_onBlock (by simp only [Block.hostRead, hostFaultOf_of_aligned h])

theorem exec_hostWrite_of_fault {v : Word} (h : width ≠ 4 ∨ off.toNat % 4 ≠ 0) :
    exec (.hostWrite blk width off v) s = .next (s.setBlock blk { s.block blk with hostFault := true }) := by
  obtain ⟨reason, hf⟩ := Option.isSome_iff_exists.1 (hostFaultOf_isSome_iff.2 h)
  exact next_onBlock (by simp only [Block.hostWrite, hf, Block.raiseHostFault])

theorem exec_hostWrite_of_aligned {v : Word} (h : off.toNat % 4 = 0) :
    exec (.hostWrite blk 4 off v) s =
      .next (s.setBlock blk ((s.block blk).writeWord off v s.fill s.draws)) :=
  next_onBlock (by simp only [Block.hostWrite, hostFaultOf_of_aligned h])

end

/-! ### Commands whose reserved bits are 0 -/

section
variable {op : Byte} {run : Block → Except CmdError Block} {b : Block} {n : Nat}

theorem Block.issue_zero_of_ok {b' : Block} (h : run b = .ok b') : b.issue op (0 : BitVec n) run = b'.withOk op := by
  simp only [Block.issue, if_true, Block.finish, h]; rfl

theorem Block.issue_zero_of_error {e : CmdError} (h : run b = .error e) :
    b.issue op (0 : BitVec n) run = b.withError op (resultCode (some e)) := by
  simp only [Block.issue, if_true, Block.finish, h, Block.record_error]

/-- A command that its reserved bits alone can fail. -/
theorem Block.issue_of_ok {b' : Block} (h : run b = .ok b') (rsvd : BitVec n) :
    b.issue op rsvd run = if rsvd = 0 then b'.withOk op else b.withError op 0x05 := by
  split_ifs with hr
  · rw [hr, Block.issue_zero_of_ok h]
  · exact Block.issue_of_reserved hr

theorem Block.evqPop_of_nil (h : b.evq = []) : b.evqPop = .error .empty := by
  simp only [Block.evqPop, h]

theorem Block.evqPop_of_cons {e : Event} {rest : List Event} (h : b.evq = e :: rest) :
    b.evqPop = .ok { b with evq := rest } := by
  simp only [Block.evqPop, h]

end

end Sys2Proof.Machine
end

section
/-! PROOFS. The statements of 40_host_interface.md. -/

namespace Sys2Proof.Machine

/-- Settles O17: a read faults, or returns the word of its region. -/
theorem hostReadReturnsTheWord : Obligations.HostReadReturnsTheWord := by
  rintro blk s b off window rfl rfl
  refine ⟨fun width hbad => ⟨_, exec_hostRead_of_fault hbad⟩, ?register, fun hal hlo hhi j hj => ?txbuf,
    fun hal hlo hhi j hj => ?rxbuf, fun hal hun => ?unmapped⟩
  case register =>
    rintro r rfl
    exact hostReads_reg blk s r
  all_goals have hread := hostReads_of_aligned (blk := blk) (s := s) hal
  case txbuf => rwa [Block.readWord_txWindow hlo hhi, ← hj] at hread
  case rxbuf => rwa [Block.readWord_rxWindow hlo hhi, ← hj] at hread
  case unmapped => rwa [Block.readWord_unmapped hun] at hread

/-- Settles O18: a write faults, or is the write of the register or of the TXBUF word at its offset, or is ignored. -/
theorem hostWriteStoresOrCommands : Obligations.HostWriteStoresOrCommands := by
  rintro blk s b off v rfl
  have reg (r : Reg) := exec_hostWrite_reg blk s r v
  refine ⟨fun width hbad => exec_hostWrite_of_fault hbad, (reg .cmd).trans (exec_decodeCommand blk v s).symm,
    reg .irqStatus, reg .irqEnable, reg .txTimeout, reg .txMaxRetries, fun hal hlo hhi => ?txbuf,
    fun hal hspace hro => ?ignored⟩
  case txbuf =>
    refine ⟨_, ?_, fun k => Memory.load?_storeBelow_lanesOf _ _ k v _⟩
    rw [exec_hostWrite_of_aligned hal, Block.writeWord_txWindow hlo hhi]
  case ignored => rw [exec_hostWrite_of_aligned hal, Block.writeWord_ignored hspace hro, State.setBlock_block]

/-- Settles O21: each command ends as its own rule does, or with RESERVED_BITS. -/
theorem housekeepingCommandsComplete : Obligations.HousekeepingCommandsComplete := by
  rintro blk s b rfl
  refine ⟨fun rsvd => next_onBlock (Block.issue_of_ok (run := Block.nop) rfl rsvd),
    fun rsvd => next_onBlock (Block.issue_of_ok (run := Block.clrCounters) rfl rsvd),
    fun rsvd hr => next_onBlock (Block.issue_of_reserved hr),
    fun hq => next_onBlock (Block.issue_zero_of_error (Block.evqPop_of_nil hq)),
    fun e rest hq => next_onBlock (Block.issue_zero_of_ok (Block.evqPop_of_cons hq))⟩

end Sys2Proof.Machine
end

section
/-! SUPPORT. Laws of the codec: slices and big-endian fields of a frame (R9), what the framer builds (R152), each result
of the verifier (R155), and how the two undo each other (R156). -/

namespace Sys2Proof.Machine

/-! ### The checksum -/

theorem crcShifts_eq_iterate (k : Nat) (c : Half) : crcShifts k c = crcShift^[k] c := by
  induction k generalizing c with
  | zero => rfl
  | succ k ih => exact ih (crcShift c)

theorem crc16_append_singleton (b : List Byte) (x : Byte) : crc16 (b ++ [x]) = crcByte (crc16 b) x :=
  List.foldl_concat ..

/-! ### Slices of a frame -/

theorem slice_add (f : Frame) (i m n : Nat) : slice f i (m + n) = slice f i m ++ slice f (i + m) n := by
  simp only [slice, List.take_add, List.drop_drop]

theorem slice_zero_length (f : Frame) : slice f 0 f.length = f := List.take_length

theorem length_slice {f : Frame} {i n : Nat} (h : i + n ≤ f.length) : (slice f i n).length = n := by
  rw [slice, List.length_take, List.length_drop]
  omega

theorem byteAt_drop (f : Frame) (i j : Nat) : byteAt (f.drop i) j = byteAt f (i + j) := by
  simp only [byteAt, List.getD_eq_getElem?_getD, List.getElem?_drop]

theorem rdBe16_drop (f : Frame) (i : Nat) : rdBe16 (f.drop i) 0 = rdBe16 f i := by
  simp only [rdBe16, byteAt_drop, Nat.add_zero, Nat.zero_add]

section
variable {f : Frame} {i : Nat}

theorem slice_one (h : i + 1 ≤ f.length) : slice f i 1 = [byteAt f i] := by
  rw [slice, List.drop_eq_getElem_cons h, List.take_succ_cons, byteAt, List.getD_eq_getElem _ _ h, List.take_zero]

theorem slice_two (h : i + 2 ≤ f.length) : slice f i 2 = [byteAt f i, byteAt f (i + 1)] := by
  rw [slice_add f i 1 1, slice_one (by omega), slice_one (by omega)]
  rfl

theorem slice_four (h : i + 4 ≤ f.length) :
    slice f i 4 = [byteAt f i, byteAt f (i + 1), byteAt f (i + 2), byteAt f (i + 3)] := by
  rw [slice_add f i 2 2, slice_two (by omega), slice_two (by omega)]
  rfl

end

/-! ### Fields of two and of four bytes (R9) -/

theorem be16_append (b1 b0 : Byte) : be16 (b1 ++ b0) = [b1, b0] := by
  rw [be16, BitVec.extractLsb'_append_eq_left, BitVec.extractLsb'_append_eq_right]

theorem be32_append (b3 b2 b1 b0 : Byte) : be32 (b3 ++ b2 ++ b1 ++ b0) = [b3, b2, b1, b0] :=
  congrArg List.reverse (lanesOf_wordOfLanes b0 b1 b2 b3)

theorem be16_ofNat (n : Nat) : be16 (BitVec.ofNat 16 n) = [BitVec.ofNat 8 (n / 256), BitVec.ofNat 8 n] := by
  have hhi : (BitVec.ofNat 16 n).extractLsb' 8 8 = BitVec.ofNat 8 (n / 256) := by
    apply BitVec.eq_of_toNat_eq
    rw [BitVec.extractLsb'_toNat, BitVec.toNat_ofNat, BitVec.toNat_ofNat, Nat.shiftRight_eq_div_pow]
    omega
  have hlo : (BitVec.ofNat 16 n).extractLsb' 0 8 = BitVec.ofNat 8 n := by
    apply BitVec.eq_of_toNat_eq
    rw [BitVec.extractLsb'_toNat, BitVec.toNat_ofNat, BitVec.toNat_ofNat, Nat.shiftRight_zero]
    omega
  rw [be16, hhi, hlo]

/-- A half-word read from the front of its own bytes. -/
theorem rdBe16_be16 (v : Half) : rdBe16 (be16 v) 0 = v :=
  BitVec.extractLsb'_append_extractLsb' (w := 8) (len := 8)

section
variable {f : Frame} {i : Nat}

theorem be16_rdBe16 (h : i + 2 ≤ f.length) : be16 (rdBe16 f i) = slice f i 2 := by
  rw [rdBe16, be16_append, slice_two h]

theorem be32_rdBe32 (h : i + 4 ≤ f.length) : be32 (rdBe32 f i) = slice f i 4 := by
  rw [rdBe32, be32_append, slice_four h]

end

/-- The number that a byte sequence spells, most significant byte first (R9, R73). -/
def bigEndian (bs : List Byte) : Nat := bs.foldl (fun acc x => 256 * acc + x.toNat) 0

theorem toNat_append_byte {n : Nat} (x : BitVec n) (y : Byte) : (x ++ y).toNat = 256 * x.toNat + y.toNat := by
  rw [BitVec.toNat_append, ← Nat.shiftLeft_add_eq_or_of_lt y.isLt, Nat.shiftLeft_eq, Nat.mul_comm]

section
variable {f : Frame} {i : Nat}

theorem toNat_byteAt (h : i + 1 ≤ f.length) : (byteAt f i).toNat = bigEndian (slice f i 1) := by
  rw [slice_one h]
  simp [bigEndian]

theorem toNat_rdBe16 (h : i + 2 ≤ f.length) : (rdBe16 f i).toNat = bigEndian (slice f i 2) := by
  rw [slice_two h, rdBe16, toNat_append_byte]
  simp [bigEndian]

theorem toNat_rdBe32 (h : i + 4 ≤ f.length) : (rdBe32 f i).toNat = bigEndian (slice f i 4) := by
  rw [slice_four h, rdBe32, toNat_append_byte, toNat_append_byte, toNat_append_byte]
  simp [bigEndian]

theorem ofNat_bigEndian (h : i + 4 ≤ f.length) : BitVec.ofNat 32 (bigEndian (slice f i 4)) = rdBe32 f i := by
  rw [← toNat_rdBe32 h, BitVec.ofNat_toNat, BitVec.setWidth_eq]

end

/-! ### What the framer builds (R152) -/

theorem length_frameBody (kind : FrameKind) (seq : Word) (payload : Frame) :
    (frameBody kind seq payload).length = 7 + payload.length := by
  simp [frameBody, be32, be16]; omega

section
variable (kind : FrameKind) (seq : Word) (payload : Frame) (ts : Word)

theorem slice_frameEncode_body :
    slice (frameEncode kind seq payload ts) 4 (7 + payload.length) = frameBody kind seq payload :=
  List.take_left' (length_frameBody ..)

theorem slice_frameEncode_payload : slice (frameEncode kind seq payload ts) 11 payload.length = payload :=
  List.take_left

theorem drop_frameEncode_crc :
    (frameEncode kind seq payload ts).drop (11 + payload.length) = be16 (crc16 (frameBody kind seq payload)) :=
  List.drop_left' (by simp [length_frameBody, be32]; omega)

theorem rdBe32_frameEncode_ts : rdBe32 (frameEncode kind seq payload ts) 0 = ts := wordOfLanes_extractLsb' ts

theorem rdBe32_frameEncode_seq : rdBe32 (frameEncode kind seq payload ts) 5 = seq := wordOfLanes_extractLsb' seq

theorem rdBe16_frameEncode_len :
    rdBe16 (frameEncode kind seq payload ts) 9 = BitVec.ofNat 16 payload.length :=
  rdBe16_be16 (BitVec.ofNat 16 payload.length)

theorem rdBe16_frameEncode_crc :
    rdBe16 (frameEncode kind seq payload ts) (11 + payload.length) = crc16 (frameBody kind seq payload) := by
  rw [← rdBe16_drop, drop_frameEncode_crc, rdBe16_be16]

theorem byteAt_frameEncode_kind : byteAt (frameEncode kind seq payload ts) 4 = kind.byte := rfl

end

/-- A frame of 13 + L bytes is its fields one after another (R95). -/
theorem frame_eq_fields {f : Frame} {len : Nat} (h : f.length = 13 + len) :
    f = be32 (rdBe32 f 0) ++ slice f 4 (7 + len) ++ be16 (rdBe16 f (11 + len)) := by
  have hsplit : slice f 0 (11 + len + 2) = slice f 0 4 ++ slice f 4 (7 + len) ++ slice f (11 + len) 2 := by
    rw [slice_add f 0 (11 + len), show 11 + len = 4 + (7 + len) by omega, slice_add f 0 4, Nat.zero_add, Nat.zero_add]
  rw [be32_rdBe32 (by omega), be16_rdBe16 (by omega), ← hsplit, show 11 + len + 2 = f.length by omega,
    slice_zero_length]

/-- The checksummed part of a frame is its KIND, SEQ, LEN and PAYLOAD (R97). -/
theorem slice_body_eq_fields {f : Frame} {len : Nat} (h : 11 ≤ f.length) :
    slice f 4 (7 + len) = byteAt f 4 :: (be32 (rdBe32 f 5) ++ be16 (rdBe16 f 9) ++ slice f 11 len) := by
  rw [be32_rdBe32 (by omega), be16_rdBe16 (by omega), ← slice_add f 5 4 2, slice_add f 4 7, slice_add f 4 1 6,
    slice_one (by omega)]
  rfl

/-! ### The results of the verifier (R155) -/

theorem kindOf_eq_some_iff {k : Byte} {kind : FrameKind} : kindOf k = some kind ↔ k = kind.byte := by
  unfold kindOf
  split_ifs with hd ha
  · subst hd; cases kind <;> decide
  · subst ha; cases kind <;> decide
  · cases kind <;> simpa

theorem kindOf_eq_none_iff {k : Byte} : kindOf k = none ↔ k ≠ kindData ∧ k ≠ kindAck := by
  unfold kindOf
  split_ifs with hd ha
  · simp [hd]
  · simp [ha]
  · exact iff_of_true rfl ⟨hd, ha⟩

section
variable {maxPayload : Nat} {f : Frame}

theorem frameDecode_of_short (h : f.length < 13) : frameDecode maxPayload f = .decodeFail .short := if_pos h

theorem frameDecode_of_oversize (h : 13 ≤ f.length) (hlen : maxPayload < frameLen f) :
    frameDecode maxPayload f = .decodeFail .oversize := by
  rw [frameDecode, if_neg h.not_gt, if_pos hlen]

theorem frameDecode_of_length (h : 13 ≤ f.length) (hlen : frameLen f ≤ maxPayload)
    (hne : f.length ≠ 13 + frameLen f) : frameDecode maxPayload f = .decodeFail .length := by
  rw [frameDecode, if_neg h.not_gt, if_neg hlen.not_gt, if_pos hne]

variable (hlen : frameLen f ≤ maxPayload) (heq : f.length = 13 + frameLen f)
include hlen heq

theorem frameDecode_of_badKind (hk : kindOf (byteAt f 4) = none) :
    frameDecode maxPayload f = .decodeFail .badKind := by
  rw [frameDecode, if_neg (by omega), if_neg hlen.not_gt, if_neg (not_not.2 heq), hk]

theorem frameDecode_of_ackPayload (hk : byteAt f 4 = kindAck) (hne : frameLen f ≠ 0) :
    frameDecode maxPayload f = .decodeFail .ackPayload := by
  rw [frameDecode, if_neg (by omega), if_neg hlen.not_gt, if_neg (not_not.2 heq), hk]
  exact if_pos ⟨rfl, hne⟩

/-- A frame that passes the structural checks is judged by its checksum. -/
theorem frameDecode_of_structure {kind : FrameKind} (hk : byteAt f 4 = kind.byte)
    (hack : kind = .ack → frameLen f = 0) : frameDecode maxPayload f = checkCrc kind (frameLen f) f := by
  rw [frameDecode, if_neg (by omega), if_neg hlen.not_gt, if_neg (not_not.2 heq), kindOf_eq_some_iff.2 hk]
  exact if_neg fun h => h.2 (hack h.1)

end

/-- What the verifier can say of a frame: a structural failure, or its judgement of the checksum of a frame that passes
the structural checks. -/
theorem frameDecode_cases (maxPayload : Nat) (f : Frame) :
    (∃ sub, frameDecode maxPayload f = .decodeFail sub) ∨
    ∃ kind : FrameKind, frameLen f ≤ maxPayload ∧ f.length = 13 + frameLen f ∧ byteAt f 4 = kind.byte ∧
      frameDecode maxPayload f = checkCrc kind (frameLen f) f := by
  by_cases hshort : f.length < 13
  · exact .inl ⟨_, frameDecode_of_short hshort⟩
  by_cases hover : maxPayload < frameLen f
  · exact .inl ⟨_, frameDecode_of_oversize (by omega) hover⟩
  by_cases heq : f.length = 13 + frameLen f
  case neg => exact .inl ⟨_, frameDecode_of_length (by omega) (by omega) heq⟩
  cases hk : kindOf (byteAt f 4) with
  | none => exact .inl ⟨_, frameDecode_of_badKind (by omega) heq hk⟩
  | some kind =>
    rw [kindOf_eq_some_iff] at hk
    by_cases hack : kind = .ack → frameLen f = 0
    · exact .inr ⟨kind, by omega, heq, hk, frameDecode_of_structure (by omega) heq hk hack⟩
    · obtain ⟨rfl, hne⟩ := Classical.not_imp.1 hack
      exact .inl ⟨_, frameDecode_of_ackPayload (by omega) heq hk hne⟩

section
variable {kind : FrameKind} {len : Nat} {f : Frame}

theorem checkCrc_of_ne (h : crc16 (slice f 4 (7 + len)) ≠ rdBe16 f (11 + len)) :
    checkCrc kind len f = .checksumFail (rdBe32 f 5) := if_pos h

theorem checkCrc_of_eq (h : crc16 (slice f 4 (7 + len)) = rdBe16 f (11 + len)) :
    checkCrc kind len f = .valid kind (rdBe32 f 5) (slice f 11 len) (rdBe32 f 0) := if_neg (not_not.2 h)

end

/-! ### The round trip (R156) -/

theorem frameLen_frameEncode {kind : FrameKind} {seq : Word} {payload : Frame} {ts : Word}
    (h : payload.length < 2 ^ 16) : frameLen (frameEncode kind seq payload ts) = payload.length := by
  rw [frameLen, rdBe16_frameEncode_len, BitVec.toNat_ofNat, Nat.mod_eq_of_lt h]

/-- The verifier takes every frame that the framer builds within the limits. -/
theorem frameDecode_frameEncode {maxPayload : Nat} {kind : FrameKind} {seq : Word} {payload : Frame} {ts : Word}
    (hmax : maxPayload < 2 ^ 16) (hle : payload.length ≤ maxPayload) (hack : kind = .ack → payload = []) :
    frameDecode maxPayload (frameEncode kind seq payload ts) = .valid kind seq payload ts := by
  have hlen := frameLen_frameEncode (kind := kind) (seq := seq) (ts := ts) (hle.trans_lt hmax)
  have hcrc := (congrArg crc16 (slice_frameEncode_body kind seq payload ts)).trans
    (rdBe16_frameEncode_crc kind seq payload ts).symm
  have hstructure : frameDecode maxPayload (frameEncode kind seq payload ts) =
      checkCrc kind payload.length (frameEncode kind seq payload ts) := by
    rw [frameDecode_of_structure (hlen.trans_le hle) (by rw [hlen, length_frameEncode]) (byteAt_frameEncode_kind ..)
      fun hk => by rw [hlen, hack hk, List.length_nil], hlen]
  rw [hstructure, checkCrc_of_eq hcrc, rdBe32_frameEncode_seq, slice_frameEncode_payload, rdBe32_frameEncode_ts]

/-- A frame whose checksum is right is the frame that the framer builds of its fields. -/
theorem frameEncode_fields {kind : FrameKind} {f : Frame} (heq : f.length = 13 + frameLen f)
    (hk : byteAt f 4 = kind.byte) (hcrc : crc16 (slice f 4 (7 + frameLen f)) = rdBe16 f (11 + frameLen f)) :
    frameEncode kind (rdBe32 f 5) (slice f 11 (frameLen f)) (rdBe32 f 0) = f := by
  have hlen : BitVec.ofNat 16 (slice f 11 (frameLen f)).length = rdBe16 f 9 := by
    rw [length_slice (by omega), frameLen, BitVec.ofNat_toNat, BitVec.setWidth_eq]
  have hbody : frameBody kind (rdBe32 f 5) (slice f 11 (frameLen f)) = slice f 4 (7 + frameLen f) := by
    rw [frameBody, hlen, ← hk, slice_body_eq_fields (by omega)]
  rw [frameEncode, hbody, hcrc, ← frame_eq_fields heq]

/-- A frame that the verifier takes is the frame that the framer builds of what it reports: the other direction. -/
theorem frameEncode_of_frameDecode {maxPayload : Nat} {f : Frame} {kind : FrameKind} {seq ts : Word} {payload : Frame}
    (h : frameDecode maxPayload f = .valid kind seq payload ts) : frameEncode kind seq payload ts = f := by
  rcases frameDecode_cases maxPayload f with ⟨sub, hf⟩ | ⟨k, -, heq, hk, hv⟩
  · cases h.symm.trans hf
  · by_cases hcrc : crc16 (slice f 4 (7 + frameLen f)) = rdBe16 f (11 + frameLen f)
    · cases h.symm.trans (hv.trans (checkCrc_of_eq hcrc))
      exact frameEncode_fields heq hk hcrc
    · cases h.symm.trans (hv.trans (checkCrc_of_ne hcrc))

end Sys2Proof.Machine
end

section
/-! SUPPORT. The rows of LINK_RX by the verdict of the frame (R160, R161), and the configuration that they all keep. -/

namespace Sys2Proof.Machine

theorem Block.verdict_cnt (c : Counter) (f : Frame) (b : Block) : (b.cnt c).verdict f = b.verdict f := rfl

section
variable {blk : BlockId} {f : Frame} {s : State}

theorem exec_rxInvalid_of_decodeFail {sub : DecodeSub} (hv : (s.block blk).verdict f = .decodeFail sub) :
    exec (.rxInvalid blk f) s = .next (s.onBlock blk (Block.rxInvalidStruct sub)) := by
  simp only [exec, execRxInvalid, hv]

theorem exec_rxInvalid_of_checksumFail {sc : Word} (hv : (s.block blk).verdict f = .checksumFail sc) :
    exec (.rxInvalid blk f) s = .next (s.onBlock blk (Block.rxInvalidCsum sc)) := by
  simp only [exec, execRxInvalid, hv]

variable {seq ts : Word} {p : Frame}

theorem exec_rxAckMatch_of_match (hv : (s.block blk).verdict f = .valid .ack seq p ts)
    (hm : (s.block blk).ackMatches seq = true) :
    exec (.rxAckMatch blk f) s = .next (s.onBlock blk (Block.rxAck seq)) := by
  simp only [exec, execRxAckMatch, onAck, hv, hm, if_true, State.onBlock, Block.rxAck]

theorem exec_rxAckStale_of_stale (hv : (s.block blk).verdict f = .valid .ack seq p ts)
    (hm : (s.block blk).ackMatches seq = false) :
    exec (.rxAckStale blk f) s = .next (s.onBlock blk (Block.rxAck seq)) := by
  simp only [exec, execRxAckStale, onAck, hv, hm, Bool.not_false, if_true, Bool.false_eq_true, if_false, State.onBlock,
    Block.rxAck]

theorem exec_rxData_of_data (hv : (s.block blk).verdict f = .valid .data seq p ts) :
    exec (.rxData blk f) s = .next (s.onBlock blk (Block.rxData seq p)) := by
  simp only [exec, execRxData, onData, hv, if_true]

/-- LINK_RX counts the frame, and resolves its verdict in the state with the frame counted (R160). -/
theorem exec_linkRx (blk : BlockId) (f : Frame) (s : State) :
    exec (.linkRx blk f) s =
      .next ((s.setBlock blk ((s.block blk).cnt .rxFrames)).onBlock blk (Block.resolve ((s.block blk).verdict f))) := by
  rw [State.onBlock_eq, State.block_setBlock_same, State.setBlock_setBlock]
  rfl

end

/-- No row of LINK_RX changes parameters, configuration registers, time, HOSTFAULT or the word read. -/
theorem ArrivalMove.sameConfig {b b' : Block} (m : ArrivalMove b b') : b'.sameConfig b := by
  cases m <;> simp [Block.sameConfig, Block.rxInvalidStruct, Block.rxInvalidCsum, Block.rxAckMatch, Block.rxAckStale,
    Block.rxAccept, Block.rxSinkBusy, Block.rxDuplicate, Block.rxFuture, Block.sendAck]

end Sys2Proof.Machine
end

section
/-! PROOFS. The statements of 41_codec.md. -/

namespace Sys2Proof.Machine

/-- Settles O7: the fields stand one after another, so each is a slice at a fixed place. -/
theorem framerLaysOutTheFields : Obligations.FramerLaysOutTheFields := by
  rintro kind seq payload ts f rfl
  refine ⟨length_frameEncode .., rfl, ?kind, rfl, be16_ofNat payload.length, slice_frameEncode_payload .., ?crc⟩
  case kind => cases kind <;> rfl
  case crc =>
    rintro crc rfl
    rw [drop_frameEncode_crc, ← slice_frameEncode_body kind seq payload ts]
    rfl

/-- Settles O8: the round trip from the framer to the verifier. -/
theorem decodeOfBuiltFrameIsValid : Obligations.DecodeOfBuiltFrameIsValid := fun _ _ _ _ _ hmax =>
  frameDecode_frameEncode (hmax.trans_lt (by decide))

/-- Settles O9: from 13 bytes on the fields are read as numbers, and each check has its own result. -/
theorem verifierReportsTheFirstFailingCheck : Obligations.VerifierReportsTheFirstFailingCheck := by
  intro maxPayload f num len hnum hlen
  replace hnum (i n : Nat) : num i n = bigEndian (slice f i n) := by rw [hnum]; rfl
  rcases lt_or_ge f.length 13 with hshort | hlong
  · exact ⟨fun _ => frameDecode_of_short hshort, by omega, by omega, by omega, by omega, by omega⟩
  obtain rfl : len = frameLen f := by rw [hlen, hnum, ← toNat_rdBe16 (by omega), frameLen]
  have hkind (k : Byte) : num 4 1 = k.toNat ↔ byteAt f 4 = k := by
    rw [hnum, ← toNat_byteAt (by omega), BitVec.toNat_inj]
  refine ⟨fun h => absurd h hlong.not_gt, frameDecode_of_oversize, frameDecode_of_length,
    fun hle heq hdata hack => ?badKind, fun hle heq hack => frameDecode_of_ackPayload hle heq ((hkind kindAck).1 hack),
    fun kind hle heq hk => ?checksum⟩
  case badKind =>
    have hnone := kindOf_eq_none_iff.2 ⟨mt (hkind kindData).2 hdata, mt (hkind kindAck).2 hack⟩
    exact frameDecode_of_badKind hle heq hnone
  case checksum =>
    have hstructure : frameDecode maxPayload f = checkCrc kind (frameLen f) f := by
      rcases hk with ⟨rfl, hk⟩ | ⟨rfl, hk, hzero⟩
      · exact frameDecode_of_structure hle heq ((hkind kindData).1 hk) fun h => by cases h
      · exact frameDecode_of_structure hle heq ((hkind kindAck).1 hk) fun _ => hzero
    have hcrc : (crc16 (slice f 4 (7 + frameLen f))).toNat = num (11 + frameLen f) 2 ↔
        crc16 (slice f 4 (7 + frameLen f)) = rdBe16 f (11 + frameLen f) := by
      rw [hnum, ← toNat_rdBe16 (by omega), BitVec.toNat_inj]
    rw [hstructure, hnum 5 4, hnum 0 4, ofNat_bigEndian (by omega), ofNat_bigEndian (by omega)]
    exact ⟨fun hne => checkCrc_of_ne (mt hcrc.2 hne), fun h => checkCrc_of_eq (hcrc.1 h)⟩

/-- Settles O10: the verifier takes no frame for a packet but the one that the framer builds of it. -/
theorem byteChangesAreDetected : Obligations.ByteChangesAreDetected := by
  rintro maxPayload kind seq payload ts f hmax hle hack rfl
  have changed {g : Frame} (hne : g ≠ frameEncode kind seq payload ts) :
      frameDecode maxPayload g ≠ .valid kind seq payload ts := fun hv => hne (frameEncode_of_frameDecode hv).symm
  refine ⟨fun i x _ _ => changed, fun i x y _ _ => changed, fun t3 t2 t1 t0 => ?timestamp⟩
  case timestamp =>
    have hframe : t3 :: t2 :: t1 :: t0 :: (frameEncode kind seq payload ts).drop 4 =
        frameEncode kind seq payload (t3 ++ t2 ++ t1 ++ t0) :=
      congrArg (· ++ (frameEncode kind seq payload ts).drop 4) (be32_append t3 t2 t1 t0).symm
    rw [hframe, frameDecode_frameEncode (hmax.trans_lt (by decide)) hle hack]

/-- Settles O39: LINK_RX and the row of its verdict both resolve the counted frame. -/
theorem linkRxResolvesEveryFrame : Obligations.LinkRxResolvesEveryFrame := by
  rintro blk s s1 b f v rfl rfl rfl
  have hs1 : ((s.setBlock blk ((s.block blk).cnt .rxFrames)).block blk).verdict f = (s.block blk).verdict f := by
    rw [State.block_setBlock_same, Block.verdict_cnt]
  refine ⟨fun sub hv => ?_, fun sc hv => ?_, fun seq p ts hv hm => ?_, fun seq p ts hv hm => ?_,
    fun seq p ts hv => ?_, _, next_onBlock rfl, (Block.linkRx_arrival f _).sameConfig⟩
  all_goals
    change (s.block blk).verdict f = _ at hv
    rw [exec_linkRx, hv]
    rw [hv] at hs1
    symm
  · exact exec_rxInvalid_of_decodeFail hs1
  · exact exec_rxInvalid_of_checksumFail hs1
  · exact exec_rxAckMatch_of_match hs1 (by simpa using hm)
  · exact exec_rxAckStale_of_stale hs1 (by simpa [← Bool.not_eq_true] using hm)
  · exact exec_rxData_of_data hs1

/-- Settles O6: the byte step is eight of R150's shifts, and the samples compute. -/
theorem crcFollowsItsPseudocode : Obligations.CrcFollowsItsPseudocode := by
  refine ⟨rfl, fun b x => ?step, ?samples⟩
  case step =>
    rw [crc16_append_singleton, crcByte, crcShifts_eq_iterate]
    rfl
  case samples => decide +kernel

/-- Settles O37: RX_INVALID runs the rule of its verdict. -/
theorem invalidFramesAreInert : Obligations.InvalidFramesAreInert := by
  rintro blk s b f rfl
  refine ⟨fun sub hv => ?_, fun sc hv => exec_rxInvalid_of_checksumFail hv⟩
  rw [exec_rxInvalid_of_decodeFail hv]
  cases sub <;> rfl

end Sys2Proof.Machine
end

section
/-! SUPPORT. What one changed byte does: to the checksum (R150), to a slice and a field of a frame (R9), and to the
verifier's result for a frame that it takes (R151, R155). -/

namespace Sys2Proof.Machine

/-! ### The checksum tells two sequences that differ in one byte apart -/

/-- One shift of `crc16` drops the top bit and, where that was set, XORs the polynomial. -/
theorem crcShift_eq (c : Half) : crcShift c = (c <<< 1) ^^^ (if c.msb then 0x1021 else 0) := by
  unfold crcShift
  split_ifs with h
  · rfl
  · exact BitVec.xor_zero.symm

/-- The polynomial is odd, so a shift keeps the bit that it drops, in bit 0. -/
theorem getLsbD_zero_crcShift (c : Half) : (crcShift c).getLsbD 0 = c.msb := by
  cases h : c.msb <;> simp [crcShift_eq, h]

theorem crcShift_injective : Function.Injective crcShift := by
  intro c d h
  have hmsb : c.msb = d.msb := by rw [← getLsbD_zero_crcShift, h, getLsbD_zero_crcShift]
  have hshift : c <<< 1 = d <<< 1 := by
    rwa [crcShift_eq, crcShift_eq, hmsb, BitVec.xor_left_inj] at h
  apply BitVec.eq_of_getLsbD_eq
  intro i hi
  by_cases htop : i = 15
  · subst htop
    rwa [BitVec.msb_eq_getLsbD_last, BitVec.msb_eq_getLsbD_last] at hmsb
  · have hbit := congrArg (·.getLsbD (i + 1)) hshift
    simpa [show i + 1 < 16 by omega, hi] using hbit

theorem crcShifts_injective (k : Nat) : Function.Injective (crcShifts k) := by
  rw [show crcShifts k = crcShift^[k] from funext (crcShifts_eq_iterate k)]
  exact crcShift_injective.iterate k

theorem crcByte_left_injective (x : Byte) : Function.Injective (crcByte · x) := fun _ _ h =>
  (BitVec.xor_left_inj _).1 (crcShifts_injective 8 h)

theorem crcByte_right_injective (c : Half) : Function.Injective (crcByte c) := by
  intro x y h
  have hshift : x.setWidth 16 <<< 8 = y.setWidth 16 <<< 8 := (BitVec.xor_right_inj _).1 (crcShifts_injective 8 h)
  apply BitVec.eq_of_getLsbD_eq
  intro i hi
  have hbit := congrArg (·.getLsbD (i + 8)) hshift
  simpa [show i + 8 < 16 by omega, show i < 16 by omega] using hbit

theorem foldl_crcByte_injective (bs : List Byte) : Function.Injective (bs.foldl crcByte) := by
  induction bs with
  | nil => exact fun _ _ h => h
  | cons x bs ih => exact fun _ _ h => crcByte_left_injective x (ih h)

theorem crc16_set_ne {bs : List Byte} {i : Nat} {x : Byte} (hi : i < bs.length) (hx : x ≠ bs[i]) :
    crc16 (bs.set i x) ≠ crc16 bs := by
  intro h
  rw [crc16, crc16, List.set_eq_take_append_cons_drop, if_pos hi, List.foldl_append] at h
  conv_rhs at h => rw [← List.take_append_drop i bs, List.drop_eq_getElem_cons hi, List.foldl_append]
  exact hx (crcByte_right_injective _ (foldl_crcByte_injective _ h))

/-! ### Slices and fields of a frame with one byte changed -/

section
variable {f : Frame} {i j n : Nat} {x : Byte}

theorem slice_set_outside (h : i < j ∨ j + n ≤ i) : slice (f.set i x) j n = slice f j n := by
  rcases h with h | h
  · rw [slice, List.drop_set_of_lt h, slice]
  · rw [slice, List.drop_set, if_neg (by omega), List.take_set_of_le (by omega), slice]

theorem slice_set_inside (h : j ≤ i) : slice (f.set i x) j n = (slice f j n).set (i - j) x := by
  rw [slice, List.drop_set, if_neg h.not_gt, List.take_set, slice]

theorem getElem_slice (h : j ≤ i) (hi : i - j < (slice f j n).length) : (slice f j n)[i - j] = byteAt f i := by
  have hlen : i < f.length := by
    rw [slice, List.length_take, List.length_drop] at hi
    omega
  simp only [slice, List.getElem_take, List.getElem_drop, byteAt, List.getD_eq_getElem _ _ hlen, Nat.add_sub_cancel' h]

theorem byteAt_set_other (h : i ≠ j) : byteAt (f.set i x) j = byteAt f j := by
  rw [byteAt, byteAt, List.getD_eq_getElem?_getD, List.getD_eq_getElem?_getD, List.getElem?_set_ne h]

theorem byteAt_set_same (h : i < f.length) : byteAt (f.set i x) i = x := by
  rw [byteAt, List.getD_eq_getElem _ _ (by simpa using h), List.getElem_set_self]

theorem rdBe16_set_outside (h : i < j ∨ j + 2 ≤ i) : rdBe16 (f.set i x) j = rdBe16 f j := by
  rw [rdBe16, byteAt_set_other (by omega), byteAt_set_other (by omega), rdBe16]

theorem rdBe32_set_outside (h : i < j ∨ j + 4 ≤ i) : rdBe32 (f.set i x) j = rdBe32 f j := by
  rw [rdBe32, byteAt_set_other (by omega), byteAt_set_other (by omega), byteAt_set_other (by omega),
    byteAt_set_other (by omega), rdBe32]

end

/-! ### The verifier's result -/

section
variable {f : Frame} {i len : Nat} {x : Byte}

/-- A byte changed in PAYLOAD or in the checksum field makes a right checksum wrong: in PAYLOAD it changes the checksum
of the body, in the checksum field it changes the checksum that the frame carries. -/
theorem crc16_ne_of_set (hlen : f.length = 13 + len) (hcrc : crc16 (slice f 4 (7 + len)) = rdBe16 f (11 + len))
    (hlo : 11 ≤ i) (hhi : i < f.length) (hx : x ≠ byteAt f i) :
    crc16 (slice (f.set i x) 4 (7 + len)) ≠ rdBe16 (f.set i x) (11 + len) := by
  by_cases hpayload : i < 11 + len
  · have hin : i - 4 < (slice f 4 (7 + len)).length := by rw [length_slice (by omega)]; omega
    rw [rdBe16_set_outside (.inl hpayload), ← hcrc, slice_set_inside (by omega)]
    exact crc16_set_ne hin (by rwa [getElem_slice (by omega)])
  · intro h
    rw [slice_set_outside (by omega), hcrc] at h
    have hset : f.set i x = f := by
      rw [frame_eq_fields (f := f.set i x) (len := len) (by simpa using hlen), ← h, rdBe32_set_outside (by omega),
        slice_set_outside (by omega), ← frame_eq_fields hlen]
    exact hx (by rw [← byteAt_set_same (x := x) hhi, hset])

/-- A frame that the verifier takes, with one byte of PAYLOAD or of the checksum field changed, fails the checksum, and
the result carries the frame's own SEQ. -/
theorem frameDecode_set_of_valid {maxPayload : Nat} {kind : FrameKind} {seq ts : Word} {payload : Frame}
    (hv : frameDecode maxPayload f = .valid kind seq payload ts) (hlo : 11 ≤ i) (hhi : i < f.length)
    (hx : x ≠ byteAt f i) : frameDecode maxPayload (f.set i x) = .checksumFail seq := by
  obtain ⟨-, hpayload, hack⟩ := frameDecode_valid hv
  rcases frameDecode_cases maxPayload f with ⟨sub, hf⟩ | ⟨k, hle, heq, hk, hf⟩
  · cases hf.symm.trans hv
  by_cases hcrc : crc16 (slice f 4 (7 + frameLen f)) = rdBe16 f (11 + frameLen f)
  case neg => cases hv.symm.trans (hf.trans (checkCrc_of_ne hcrc))
  cases hv.symm.trans (hf.trans (checkCrc_of_eq hcrc))
  have hset : frameLen (f.set i x) = frameLen f := by rw [frameLen, rdBe16_set_outside (by omega), frameLen]
  rw [frameDecode_of_structure (kind := kind) (by rwa [hset]) (by rwa [List.length_set, hset])
    (by rwa [byteAt_set_other (by omega)]) fun h => ?ack, hset, checkCrc_of_ne (crc16_ne_of_set heq hcrc hlo hhi hx),
    rdBe32_set_outside (by omega)]
  case ack =>
    have hnil := congrArg List.length (hack h)
    rw [List.length_nil] at hnil
    omega

end

end Sys2Proof.Machine
end

section
/-! SUPPORT. Laws of the link agent: LINK_ADMIT by the choice that it takes (R182, R183), LINK_DELIVER by the entry that
it takes (R184), and when TICK and SYS_TICK run (R189, R215). -/

namespace Sys2Proof.Machine

/-! ### The corruption (R182 step 3) -/

theorem xorMask_ne_zero (c : LinkChoice) : xorMask c ≠ 0 := by
  unfold xorMask
  split_ifs with h
  · decide
  · exact h

theorem corruptedFrame_eq_set (c : LinkChoice) (f : Frame) :
    corruptedFrame c f =
      f.set (clamp 11 (f.length - 1) c.index) (byteAt f (clamp 11 (f.length - 1) c.index) ^^^ xorMask c) := by
  rw [corruptedFrame, List.modify_eq_set, byteAt, List.getD_eq_getElem?_getD]
  rfl

theorem clamp_mem {lo hi : Nat} (h : lo ≤ hi) (n : Nat) : lo ≤ clamp lo hi n ∧ clamp lo hi n ≤ hi := by
  rw [clamp]; omega

theorem clamp_of_mem {lo hi n : Nat} (hlo : lo ≤ n) (hhi : n ≤ hi) : clamp lo hi n = n := by
  rw [clamp]; omega

/-- A corruption changes one byte of bytes 11 to |f|-1, and the mask is not 0. -/
theorem corruptedFrame_one_byte (c : LinkChoice) {f : Frame} (h : 11 < f.length) :
    ∃ (i : Nat) (m : Byte), 11 ≤ i ∧ i < f.length ∧ m ≠ 0 ∧ corruptedFrame c f = f.set i (byteAt f i ^^^ m) := by
  obtain ⟨hlo, hhi⟩ := clamp_mem (show 11 ≤ f.length - 1 by omega) c.index
  exact ⟨_, _, hlo, by omega, xorMask_ne_zero c, corruptedFrame_eq_set c f⟩

/-! ### The impairment decision -/

theorem chanceAllows_iff {p : Chance} {wish : Bool} :
    chanceAllows p wish = true ↔ p = .always ∨ p = .sometimes ∧ wish = true := by
  cases p <;> simp [chanceAllows]

theorem chanceAllows_eq_false_iff {p : Chance} {wish : Bool} :
    chanceAllows p wish = false ↔ p = .never ∨ p = .sometimes ∧ wish = false := by
  cases p <;> simp [chanceAllows]

/-- What happens has p ≠ 0 (R183). -/
theorem ne_never_of_chanceAllows {p : Chance} {wish : Bool} (h : chanceAllows p wish = true) : p ≠ .never := by
  rintro rfl; cases h

/-- What does not happen has p ≠ 1 (R183). -/
theorem ne_always_of_chanceAllows_eq_false {p : Chance} {wish : Bool} (h : chanceAllows p wish = false) :
    p ≠ .always := by
  rintro rfl; cases h

/-- A wish is enough where p ≠ 0 (R183). -/
theorem chanceAllows_wish {p : Chance} (h : p ≠ .never) : chanceAllows p true = true := by
  cases p <;> trivial

/-- The lack of a wish is enough where p ≠ 1 (R183). -/
theorem chanceAllows_no_wish {p : Chance} (h : p ≠ .always) : chanceAllows p false = false := by
  cases p <;> trivial

section
variable {pr : Profile} {c : LinkChoice} {f : Frame}

theorem corrupts_iff : corrupts pr c f = true ↔ 11 < f.length ∧ chanceAllows pr.corruption c.corrupt = true := by
  rw [corrupts, Bool.and_eq_true, decide_eq_true_eq]

theorem impairedFrame_of_corrupts (h : corrupts pr c f = true) : impairedFrame pr c f = corruptedFrame c f := if_pos h

theorem impairedFrame_of_not_corrupts (h : corrupts pr c f = false) : impairedFrame pr c f = f := by
  rw [impairedFrame, h]; rfl

end

/-- What becomes of a frame that passes step 1: it is carried unchanged, or one of its bytes 11 to |f|-1 is changed. -/
theorem impairedFrame_cases (pr : Profile) (c : LinkChoice) (f : Frame) :
    (corrupts pr c f = false ∧ impairedFrame pr c f = f ∧ (pr.corruption ≠ .always ∨ f.length ≤ 11)) ∨
    (corrupts pr c f = true ∧ pr.corruption ≠ .never ∧ ∃ (i : Nat) (m : Byte), 11 ≤ i ∧ i < f.length ∧ m ≠ 0 ∧
      impairedFrame pr c f = f.set i (byteAt f i ^^^ m)) := by
  cases h : corrupts pr c f with
  | false =>
    refine .inl ⟨rfl, impairedFrame_of_not_corrupts h, or_iff_not_imp_right.2 fun hlong hp => ?_⟩
    have hyes : corrupts pr c f = true := corrupts_iff.2 ⟨not_le.1 hlong, chanceAllows_iff.2 (.inl hp)⟩
    cases h.symm.trans hyes
  | true =>
    obtain ⟨hlong, hp⟩ := corrupts_iff.1 h
    rw [impairedFrame_of_corrupts h]
    exact .inr ⟨rfl, ne_never_of_chanceAllows hp, corruptedFrame_one_byte c hlong⟩

/-! ### The link agent's record -/

@[simp] theorem Link.setFlight_flight (l : Link) (d : Direction) : l.setFlight d (l.flight d) = l := by cases d <;> rfl

section
variable (l : Link) (choices : List LinkChoice) (trace : List LinkRecord) (d : Direction)

theorem Link.flight_withRecords : { l with choices := choices, trace := trace }.flight d = l.flight d := by
  cases d <;> rfl

theorem Link.profile_withRecords : { l with choices := choices, trace := trace }.profile d = l.profile d := by
  cases d <;> rfl

theorem Link.setFlight_withRecords (fl : List (Frame × Nat)) :
    { l with choices := choices, trace := trace }.setFlight d fl =
      { l.setFlight d fl with choices := choices, trace := trace } := by
  cases d <;> rfl

end

section
variable {d : Direction} {f : Frame} {c : LinkChoice} {l : Link}

/-- Step 1 drops the frame, and only the record shows it. -/
theorem Link.admitFrame_of_dropped (h : chanceAllows (l.profile d).loss c.drop = true) :
    l.admitFrame d f c = { l with trace := l.trace ++ [.dropped d f] } := by
  simp only [Link.admitFrame, admittedRecords, h, if_true, Link.setFlight_flight]

/-- Step 1 lets the frame pass, and its entries go into flight. -/
theorem Link.admitFrame_of_passed (h : chanceAllows (l.profile d).loss c.drop = false) :
    l.admitFrame d f c = { l.setFlight d (l.flight d ++ admittedEntries l.model (l.profile d) c f) with
      trace := l.trace ++ if corrupts (l.profile d) c f then [.corrupted d f] else [] } := by
  simp only [Link.admitFrame, admittedRecords, h, Bool.false_eq_true, if_false]

end

/-! ### LINK_ADMIT by its choice -/

/-- The choice that LINK_ADMIT takes in `s`: the next resolution, or the free choice of this draw (log entry 6). -/
def State.takesChoice (s : State) (c : LinkChoice) : Prop :=
  s.link.choices.head? = some c ∨ s.link.choices = [] ∧ c = Config.freeChoice s.draws

theorem State.exists_takesChoice (s : State) : ∃ c, s.takesChoice c := by
  cases h : s.link.choices with
  | nil => exact ⟨_, .inr ⟨h, rfl⟩⟩
  | cons c rest => exact ⟨c, .inl (by rw [h]; rfl)⟩

section
variable {d : Direction} {f : Frame} {s : State} {c : LinkChoice}

theorem State.admitFrame_of_takesChoice (hc : s.takesChoice c) :
    s.admitFrame d f = { s with link := { s.link with choices := s.link.choices.tail }.admitFrame d f c } := by
  rcases hc with h | ⟨h, rfl⟩
  · obtain ⟨rest, hrest⟩ := List.head?_eq_some_iff.1 h
    simp only [State.admitFrame, hrest, List.tail_cons]
  · simp only [State.admitFrame, h, List.tail_nil]
    rw [← h]

theorem exec_linkAdmit_of_dropped (hc : s.takesChoice c) (hdrop : chanceAllows (s.link.profile d).loss c.drop = true) :
    exec (.linkAdmit d f) s = .next { s with
      link := { s.link with choices := s.link.choices.tail, trace := s.link.trace ++ [.dropped d f] } } := by
  rw [exec, execLinkAdmit, State.admitFrame_of_takesChoice hc,
    Link.admitFrame_of_dropped (by rwa [Link.profile_withRecords])]

theorem exec_linkAdmit_of_passed (hc : s.takesChoice c) (hdrop : chanceAllows (s.link.profile d).loss c.drop = false) :
    exec (.linkAdmit d f) s = .next { s with
      link := { s.link.setFlight d (s.link.flight d ++ admittedEntries s.link.model (s.link.profile d) c f) with
        choices := s.link.choices.tail
        trace := s.link.trace ++ (if corrupts (s.link.profile d) c f then [.corrupted d f] else []) } } := by
  rw [exec, execLinkAdmit, State.admitFrame_of_takesChoice hc,
    Link.admitFrame_of_passed (by rwa [Link.profile_withRecords]), Link.setFlight_withRecords,
    Link.flight_withRecords, Link.profile_withRecords]

end

/-- The state `s` in which the next choice of LINK_ADMIT is `c`. -/
def State.withChoice (s : State) (c : LinkChoice) (rest : List LinkChoice) : State :=
  { s with link := { s.link with choices := c :: rest } }

section
variable {d : Direction} {f : Frame} {s : State} {c : LinkChoice} {rest : List LinkChoice}

theorem exec_linkAdmit_drops (h : chanceAllows (s.link.profile d).loss c.drop = true) :
    ∃ t, exec (.linkAdmit d f) (s.withChoice c rest) = .next t ∧ t.link.flight d = s.link.flight d := by
  refine ⟨_, exec_linkAdmit_of_dropped (.inl rfl) ?_, ?_⟩
  · rwa [State.withChoice, Link.profile_withRecords]
  · rw [Link.flight_withRecords, State.withChoice, Link.flight_withRecords]

/-- A choice that lets the frame pass puts one entry in flight. -/
theorem exec_linkAdmit_carries {g : Frame} {due : Nat} (hm : s.link.model = .simulator)
    (h : chanceAllows (s.link.profile d).loss c.drop = false) (hg : impairedFrame (s.link.profile d) c f = g)
    (hdue : clamp (s.link.profile d).delayMin (s.link.profile d).delayMax c.delay = due) :
    ∃ t, exec (.linkAdmit d f) (s.withChoice c rest) = .next t ∧ t.link.flight d = s.link.flight d ++ [(g, due)] := by
  refine ⟨_, exec_linkAdmit_of_passed (.inl rfl) ?_, ?_⟩
  · rwa [State.withChoice, Link.profile_withRecords]
  · rw [Link.flight_withRecords, Link.flight_setFlight_same, State.withChoice, Link.flight_withRecords,
      Link.profile_withRecords, hm, admittedEntries, admittedDelay, hg, hdue]

end

/-! ### LINK_DELIVER by its entry -/

section
variable {d : Direction} {f : Frame} {s : State}

theorem deliverable_iff {model : LinkModel} {e : Frame × Nat} :
    Link.deliverable model f e = true ↔ e.1 = f ∧ (model = .any ∨ e.2 = 0) := by
  simp [Link.deliverable]

/-- Under SIMULATOR the entry taken is the frame with no tick left. -/
theorem deliverable_simulator_eq (f : Frame) : Link.deliverable .simulator f = (· == (f, 0)) := by
  funext e
  rw [Bool.eq_iff_iff, deliverable_iff, beq_iff_eq, Prod.ext_iff]
  simp

/-- The entry leaves flight, and its frame arrives at the receiving block (R184). -/
theorem exec_linkDeliver_of_mem {e : Frame × Nat} (he : e ∈ s.link.flight d)
    (hd : Link.deliverable s.link.model f e = true) :
    exec (.linkDeliver d f) s = exec (.linkRx d.dst f) { s with
      link := s.link.setFlight d ((s.link.flight d).eraseP (Link.deliverable s.link.model f)) } :=
  if_pos (List.any_eq_true.2 ⟨e, he, hd⟩)

theorem exec_linkDeliver_refused (h : ∀ e ∈ s.link.flight d, Link.deliverable s.link.model f e ≠ true) :
    exec (.linkDeliver d f) s = .refused .notEnabled := by
  refine if_neg fun hany => ?_
  obtain ⟨e, he, hd⟩ := List.any_eq_true.1 hany
  exact h e he hd

theorem src_ne_dst (d : Direction) : d.src ≠ d.dst := by cases d <;> decide

end

/-! ### TICK and SYS_TICK -/

section
variable {s : State}

theorem exec_tick_of_timeMayPass (blk : BlockId) (h : s.timeMayPass = true) :
    exec (.tick blk) s = .next (s.onBlock blk Block.tick) := if_pos h

theorem State.sysTickEnabled_iff : s.sysTickEnabled = true ↔ s.link.model = .any ∨
    (∀ e ∈ s.link.flightAB ++ s.link.flightBA, e.2 ≠ 0) ∧ s.blockA.txq = [] ∧ s.blockB.txq = [] := by
  simp only [State.sysTickEnabled, Link.anyDue, Bool.or_eq_true, Bool.and_eq_true, Bool.not_eq_true',
    List.any_eq_false, beq_iff_eq, List.isEmpty_iff, and_assoc, ne_eq]

theorem State.block_sysTick (blk : BlockId) : s.sysTick.block blk = (s.block blk).tick := by cases blk <;> rfl

end

end Sys2Proof.Machine
end

section
/-! PROOFS. The statements of 42_link.md. -/

namespace Sys2Proof.Machine

/-- Settles O11: the corrupted byte is in PAYLOAD or the checksum field, so the verifier sees its change. -/
theorem simulatorCorruptionGivesChecksumFail : Obligations.SimulatorCorruptionGivesChecksumFail := by
  rintro maxPayload kind seq payload ts f c hmax hle hack rfl
  have hlong : 11 < (frameEncode kind seq payload ts).length := by rw [length_frameEncode]; omega
  obtain ⟨i, m, hlo, hhi, hm, hf⟩ := corruptedFrame_one_byte c hlong
  have hvalid := frameDecode_frameEncode (seq := seq) (ts := ts) (hmax.trans_lt (by decide)) hle hack
  refine ⟨⟨i, m, hlo, hhi, hm, hf⟩, ?_⟩
  rw [hf, frameDecode_set_of_valid hvalid hlo hhi fun h => hm (xor_left_eq_self_iff.1 h)]

/-- Settles O42: each outcome of the two steps of the decision is one that the profile's chances leave open. -/
theorem linkAdmitStaysWithinTheProfile : Obligations.LinkAdmitStaysWithinTheProfile := by
  rintro d d' f s pr hm rfl hd
  obtain ⟨c, hc⟩ := s.exists_takesChoice
  cases hdrop : chanceAllows (s.link.profile d).loss c.drop with
  | true =>
    exact ⟨_, exec_linkAdmit_of_dropped hc hdrop, rfl, rfl, rfl, rfl, rfl, Link.flight_withRecords .., rfl,
      .inl ⟨ne_never_of_chanceAllows hdrop, Link.flight_withRecords .., rfl⟩⟩
  | false =>
    obtain ⟨hlo, hhi⟩ := clamp_mem (s.link.profile d).legal c.delay
    refine ⟨_, exec_linkAdmit_of_passed hc hdrop, rfl, rfl, Link.setFlight_model .., Link.setFlight_profile _ _ .aToB _,
      Link.setFlight_profile _ _ .bToA _, (Link.flight_withRecords ..).trans (Link.flight_setFlight_other _ _ hd), rfl,
      .inr ⟨ne_always_of_chanceAllows_eq_false hdrop, impairedFrame (s.link.profile d) c f, _, ?flight, hlo, hhi,
        ?frame⟩⟩
    case flight => rw [Link.flight_withRecords, Link.flight_setFlight_same, hm]; rfl
    case frame =>
      rcases impairedFrame_cases (s.link.profile d) c f with ⟨hno, hf, hp⟩ | ⟨hyes, hp, hf⟩
      · exact .inl ⟨hf, hp, by simp [hno]⟩
      · exact .inr ⟨hp, by simp [hyes], hf⟩

/-- Settles O43: the obligation's own reading of a choice is the model's `corrupts` and `impairedFrame`. -/
theorem linkAdmitFollowsItsChoice : Obligations.LinkAdmitFollowsItsChoice := by
  rintro d f g s c pr corrupt hc rfl hcorrupt hg
  obtain rfl : corrupt = corrupts (s.link.profile d) c f := by
    rw [hcorrupt, Bool.eq_iff_iff, corrupts_iff, chanceAllows_iff]
    simp
  obtain rfl : g = impairedFrame (s.link.profile d) c f := by
    rw [hg, impairedFrame, corruptedFrame_eq_set]
    rfl
  refine ⟨fun hdrop => exec_linkAdmit_of_dropped hc (chanceAllows_iff.2 hdrop), fun hdrop => ?_⟩
  rw [exec_linkAdmit_of_passed hc (chanceAllows_eq_false_iff.2 hdrop)]
  cases s.link.model <;> rfl

/-- Settles O44: a choice that asks for an outcome within the profile's bounds gets it. -/
theorem linkAdmitReachesEveryOutcome : Obligations.LinkAdmitReachesEveryOutcome := by
  rintro d f s pr rest hm rfl
  refine ⟨fun hp => ?drop, fun due hp hlo hhi => ⟨fun hcorr => ?unchanged, fun i m hcorr hi hlen hmask => ?corrupted⟩⟩
  case drop =>
    exact ⟨Fate.drop.choice, exec_linkAdmit_drops (chanceAllows_wish hp)⟩
  case unchanged =>
    have hframe : impairedFrame (s.link.profile d) (Fate.pass due).choice f = f :=
      impairedFrame_of_not_corrupts (Bool.and_eq_false_imp.2 fun _ => chanceAllows_no_wish hcorr)
    exact ⟨_, exec_linkAdmit_carries hm (chanceAllows_no_wish hp) hframe (clamp_of_mem hlo hhi)⟩
  case corrupted =>
    have hframe : impairedFrame (s.link.profile d) { (Fate.corrupt i m).choice with delay := due } f =
        f.set i (byteAt f i ^^^ m) := by
      rw [impairedFrame_of_corrupts (corrupts_iff.2 ⟨by omega, chanceAllows_wish hcorr⟩), corruptedFrame_eq_set]
      simp only [Fate.choice, xorMask, hmask, if_false, clamp_of_mem hi (show i ≤ f.length - 1 by omega)]
    exact ⟨_, exec_linkAdmit_carries hm (chanceAllows_no_wish hp) hframe (clamp_of_mem hlo hhi)⟩

/-- Settles O45: an entry in flight that may be taken is taken once, and the arrival is on the receiving block alone. -/
theorem linkDeliverHandsOverADueFrame : Obligations.LinkDeliverHandsOverADueFrame := by
  intro d f s
  refine ⟨fun hm hf => ?due, fun hm ⟨due, hf⟩ => ?any, fun hm hf => ?notDue, fun hm hf => ?absent,
    fun due hf hdue => ?sender⟩
  case due =>
    rw [exec_linkDeliver_of_mem hf (deliverable_iff.2 ⟨rfl, .inr rfl⟩), hm, deliverable_simulator_eq,
      List.erase_eq_eraseP']
  case any =>
    have hd : Link.deliverable s.link.model f (f, due) = true := deliverable_iff.2 ⟨rfl, .inl hm⟩
    obtain ⟨⟨g, due'⟩, l1, l2, -, hg, hsplit, herase⟩ := List.exists_of_eraseP hf hd
    obtain ⟨rfl, -⟩ := deliverable_iff.1 hg
    exact ⟨l1, due', l2, hsplit, by rw [exec_linkDeliver_of_mem hf hd, herase]⟩
  case notDue =>
    refine exec_linkDeliver_refused fun e he hd => hf ?_
    rw [hm, deliverable_simulator_eq, beq_iff_eq] at hd
    rwa [← hd]
  case absent =>
    refine exec_linkDeliver_refused fun e he hd => hf e.2 ?_
    obtain ⟨rfl, -⟩ := deliverable_iff.1 hd
    exact he
  case sender =>
    refine ⟨_, exec_linkDeliver_of_mem hf (deliverable_iff.2 ⟨rfl, hdue.symm⟩), ?_⟩
    rw [State.onBlock, State.block_setBlock_other _ _ (src_ne_dst d), State.block_withLink]

/-- Settles O46: where SYS_TICK is enabled time may pass, so TICK runs on both blocks. -/
theorem sysTickAdvancesSharedTime : Obligations.SysTickAdvancesSharedTime := by
  refine fun s => ⟨fun h => ?enabled, fun hm h => if_neg fun hen => ?refused⟩
  case enabled =>
    have htime : s.timeMayPass = true := State.timeMayPass_iff.2 (h.imp_right And.left)
    refine ⟨s.sysTick, if_pos (State.sysTickEnabled_iff.2 h), rfl, rfl, rfl, rfl, rfl, rfl, rfl, rfl, rfl, fun blk =>
      ⟨_, exec_tick_of_timeMayPass blk htime, ?_⟩⟩
    rw [State.block_sysTick, State.onBlock, State.block_setBlock_same]
  case refused =>
    obtain hany | ⟨hdue, hA, hB⟩ := State.sysTickEnabled_iff.1 hen
    · cases hm.symm.trans hany
    · rcases h with ⟨e, he, h0⟩ | hne | hne
      · exact hdue e he h0
      · exact hne hA
      · exact hne hB

/-- Settles O41: the head of TXQ decides whether LINK_TAKE is enabled, and is the frame that LINK_ADMIT gets. -/
theorem linkTakeMovesTheHead : Obligations.LinkTakeMovesTheHead := by
  rintro blk s b rfl
  refine ⟨fun f rest h => ?head, fun h => ?empty⟩
  case head =>
    have hexec : exec (.linkTake blk) s =
        exec (.linkAdmit blk.outbound f) (s.setBlock blk { s.block blk with txq := rest }) := by
      simp only [exec, execLinkTake, h]
      rfl
    exact ⟨hexec, _, hexec, by rw [State.block_admitFrame, State.block_setBlock_same]⟩
  case empty => simp only [exec, execLinkTake, h]

end Sys2Proof.Machine
end

section
/-! SUPPORT. Laws of the sender: how the rule of each of its commands ends (R202, R204, R208, R210), the rows of EXPIRE
(R217, R218), and TICK by whether EXPIRE runs (R215). -/

namespace Sys2Proof.Machine

/-! ### The rules of the sender's commands -/

section
variable {b : Block}

theorem Block.txStart_of_awaiting (h : b.txState = .awaitingAck) : b.txStart = .error .wrongState := if_pos h

theorem Block.txStart_of_not_awaiting (h : b.txState ≠ .awaitingAck) :
    b.txStart = .ok { b with
      txState := .idle, nextSeq := 0, pendingValid := false, timerRem := 0, failCause := .none } := if_neg h

theorem Block.txEnd_of_not_idle (h : b.txState ≠ .idle) : b.txEnd = .error .wrongState := if_pos h

theorem Block.txEnd_of_idle (h : b.txState = .idle) :
    b.txEnd = .ok ((({ b with txState := .done }).setIrq .txDone).pushEvent .transferDone 0 b.wireSeq) :=
  if_neg (not_not_intro h)

theorem Block.txCancel_of_over (h : b.txState = .done ∨ b.txState = .failed) : b.txCancel = .error .wrongState :=
  if_pos (by rcases h with h | h <;> simp [h])

theorem Block.txCancel_of_open (h : b.txState = .idle ∨ b.txState = .awaitingAck) :
    b.txCancel = .ok ((b.failWith .cancelled).pushEvent .transferFailed 2 b.cancelSeq) :=
  if_neg fun hne => h.elim hne.1 hne.2

variable {len : Half} {fill : Nat → Byte}

theorem Block.txSend_of_not_idle (h : b.txState ≠ .idle) : b.txSend len fill = .error .wrongState := if_pos h

theorem Block.txSend_of_long (hidle : b.txState = .idle) (hlen : b.par.maxPayload < len.toNat) :
    b.txSend len fill = .error .badLength := by
  rw [Block.txSend, if_neg (not_not_intro hidle), if_pos hlen]

theorem Block.txSend_of_exhausted (hidle : b.txState = .idle) (hlen : len.toNat ≤ b.par.maxPayload)
    (hseq : b.nextSeq = seqLimit) : b.txSend len fill = .error .seqExhausted := by
  rw [Block.txSend, if_neg (not_not_intro hidle), if_neg hlen.not_gt, if_pos hseq]

theorem Block.txSend_of_ready (hidle : b.txState = .idle) (hlen : len.toNat ≤ b.par.maxPayload)
    (hseq : b.nextSeq ≠ seqLimit) : b.txSend len fill = .ok (b.sendFragment len fill) := by
  rw [Block.txSend, if_neg (not_not_intro hidle), if_neg hlen.not_gt, if_neg hseq]

end

/-- R33: every sequence number is used up when NEXT_SEQ holds 2^32. -/
theorem eq_seqLimit_iff {q : SessionSeq} : q = seqLimit ↔ q.toNat = 2 ^ 32 := BitVec.toNat_inj.symm

/-! ### EXPIRE and its rows -/

/-- R217: with a retry left the count does not wrap, and RETRANSMIT reports it up to 255. -/
theorem saturate8_add_one {b : Block} (h : b.retryLeft = true) :
    saturate8 (b.retriesUsed + 1) = BitVec.ofNat 8 (min (b.retriesUsed.toNat + 1) 255) := by
  obtain ⟨-, -, -, hadd, -⟩ := Block.expireRetransmit_pending h
  change (b.retriesUsed + 1).toNat = _ at hadd
  rw [saturate8, hadd]
  split_ifs with hbig
  · rw [min_eq_right hbig.le]; rfl
  · rw [min_eq_left (by omega), ← hadd]
    exact (BitVec.ofNat_toNat 8 (b.retriesUsed + 1)).symm

/-- R217: what a retransmission leaves, with a retry left. -/
theorem Block.expireRetransmit_eq {b : Block} (h : b.retryLeft = true) :
    b.expireRetransmit =
      (({ b.emitFrame b.retxBytes with
        retriesUsed := b.retriesUsed + 1, timerRem := b.timeout }).cnt .retx).pushEvent
          .retransmit (BitVec.ofNat 8 (min (b.retriesUsed.toNat + 1) 255)) b.pendingSeq := by
  rw [Block.expireRetransmit, saturate8_add_one h]

@[simp] theorem Block.expireRetransmit_txState (b : Block) : b.expireRetransmit.txState = b.txState := by
  simp [Block.expireRetransmit]
@[simp] theorem Block.expireRetransmit_timeout (b : Block) : b.expireRetransmit.timeout = b.timeout := by
  simp [Block.expireRetransmit]
@[simp] theorem Block.expireRetransmit_maxRetries (b : Block) : b.expireRetransmit.maxRetries = b.maxRetries := by
  simp [Block.expireRetransmit]
@[simp] theorem Block.expireRetransmit_timerRem (b : Block) : b.expireRetransmit.timerRem = b.timeout := by
  simp [Block.expireRetransmit]

theorem Block.expireRetransmit_retx (b : Block) :
    b.expireRetransmit.counters.retx = b.counters.retx + 1 := by
  simp only [Block.expireRetransmit, Block.pushEvent_counters, Block.cnt_counters, Block.emitFrame_counters]
  split_ifs <;> rfl

theorem Block.expireFail_retx (b : Block) : b.expireFail.counters.retx = b.counters.retx := by
  simp only [Block.expireFail, Block.pushEvent_counters]
  split_ifs <;> rfl

/-- An EXPIRE row runs where time may pass, EXPIRE runs and its condition holds. -/
theorem onExpire_of_case {blk : BlockId} {s : State} {cond : Block → Bool} {run : Block → Block}
    (ht : s.timeMayPass = true) (he : (s.block blk).expiring = true) (hc : cond (s.block blk) = true) :
    onExpire blk cond run s = .next (s.onBlock blk run) := by
  simp [onExpire, ht, he, hc]

/-! ### TICK by its case -/

section
variable {b : Block}

theorem Block.countDown_timerRem_eq_zero_iff : b.countDown.timerRem = 0 ↔ b.timerRem.toNat ≤ 1 := by
  rw [Block.countDown_timerRem]
  split_ifs with h
  · simp [h]
  · bv_omega

theorem Block.tick_of_not_awaiting (h : b.txState ≠ .awaitingAck) : b.tick = b.advanceNow := if_neg h

theorem Block.tick_of_counting (ha : b.txState = .awaitingAck) (ht : 1 < b.timerRem.toNat) :
    b.tick = { b with now := b.now + 1, timerRem := b.timerRem - 1 } := by
  have hne : b.timerRem ≠ 0 := by bv_omega
  have hcount : b.countDown = { b with timerRem := b.timerRem - 1 } := by rw [Block.countDown, if_neg hne]
  rcases tick_cases b with ⟨hn, -⟩ | ⟨-, -, he⟩ | ⟨-, h0, -⟩ | ⟨-, h0, -⟩
  · exact absurd ha hn
  · rw [he, Block.countDown_advanceNow, hcount]; rfl
  all_goals exact absurd (Block.countDown_timerRem_eq_zero_iff.1 h0) ht.not_ge

theorem Block.tick_of_retryLeft (ha : b.txState = .awaitingAck) (ht : b.timerRem.toNat ≤ 1)
    (hr : b.retryLeft = true) : b.tick = b.advanceNow.countDown.expireRetransmit := by
  rcases tick_cases b with ⟨hn, -⟩ | ⟨-, hne, -⟩ | ⟨-, -, -, he⟩ | ⟨-, -, hspent, -⟩
  · exact absurd ha hn
  · exact absurd (Block.countDown_timerRem_eq_zero_iff.2 ht) hne
  · exact he
  · cases hr.symm.trans hspent

theorem Block.tick_of_spent (ha : b.txState = .awaitingAck) (ht : b.timerRem.toNat ≤ 1)
    (hr : b.retryLeft = false) : b.tick = b.advanceNow.countDown.expireFail := by
  rcases tick_cases b with ⟨hn, -⟩ | ⟨-, hne, -⟩ | ⟨-, -, hleft, -⟩ | ⟨-, -, -, he⟩
  · exact absurd ha hn
  · exact absurd (Block.countDown_timerRem_eq_zero_iff.2 ht) hne
  · cases hr.symm.trans hleft
  · exact he

end

end Sys2Proof.Machine
end

section
/-! SUPPORT. Runs of TICKs on one block (R215, R220 (a)): TICK iterated, and what holds of a packet that waits through
it. -/

namespace Sys2Proof.Machine

/-- Where time may pass, TICK runs again after each TICK, because it leaves the link agent as it was. -/
theorem runTicks_of_timeMayPass (blk : BlockId) {s : State} (h : s.timeMayPass = true) (n : Nat) :
    runTicks blk n s = .next (s.setBlock blk (Block.tick^[n] (s.block blk))) := by
  induction n generalizing s with
  | zero => simp [runTicks]
  | succ n ih =>
    have hnext : (s.setBlock blk (s.block blk).tick).timeMayPass = true := by
      rw [State.timeMayPass, State.setBlock_link]; exact h
    rw [runTicks, exec_tick_of_timeMayPass blk h]
    simp only [State.onBlock_eq, ih hnext, State.block_setBlock_same, State.setBlock_setBlock,
      Function.iterate_succ_apply]

/-- How many TICKs a waiting sender's timer takes to run EXPIRE (R215): a timer at 0 expires on the next one. -/
def Block.ticksLeft (b : Block) : Nat := max b.timerRem.toNat 1

/-- How many TICKs a sender waits after it has loaded its timer (R217, R220 (a)). -/
def Block.period (b : Block) : Nat := max b.timeout.toNat 1

/-- What holds of a block `c` that was `b`, with a packet just sent, `n` TICKs before and still waits: the ticks since
then and those left make up one period for the packet and one for each retransmission (R220 (a)). -/
structure WaitsAfter (b : Block) (n : Nat) (c : Block) : Prop where
  waiting : c.txState = .awaitingAck
  timeout_eq : c.timeout = b.timeout
  maxRetries_eq : c.maxRetries = b.maxRetries
  retx_eq : c.counters.retx = b.counters.retx + BitVec.ofNat 32 c.retriesUsed.toNat
  left_le : c.ticksLeft ≤ b.period
  elapsed : n + c.ticksLeft = (c.retriesUsed.toNat + 1) * b.period

section
variable {b c : Block} {n : Nat}

theorem Block.ticksLeft_pos : 0 < b.ticksLeft := Nat.lt_of_lt_of_le Nat.one_pos (Nat.le_max_right _ _)

theorem Block.period_pos : 0 < b.period := Nat.lt_of_lt_of_le Nat.one_pos (Nat.le_max_right _ _)

theorem Block.ticksLeft_eq_one_iff : b.ticksLeft = 1 ↔ b.timerRem.toNat ≤ 1 := by
  rw [Block.ticksLeft]; omega

/-- A packet just sent has waited no tick. -/
theorem waitsAfter_zero (hst : b.txState = .awaitingAck) (hru : b.retriesUsed = 0) (hrem : b.timerRem = b.timeout) :
    WaitsAfter b 0 b := by
  have hleft : b.ticksLeft = b.period := by rw [Block.ticksLeft, hrem, Block.period]
  exact ⟨hst, rfl, rfl, by simp [hru], hleft.le, by simp [hru, hleft]⟩

/-- RETRIES_USED counts the periods that are over. -/
theorem WaitsAfter.retriesUsed_eq (w : WaitsAfter b n c) : c.retriesUsed.toNat = n / b.period := by
  have hpos := c.ticksLeft_pos
  have hle := w.left_le
  have helapsed := w.elapsed
  rw [Nat.succ_mul] at helapsed
  exact (Nat.div_eq_of_lt_le (by omega) (by rw [Nat.succ_mul]; omega)).symm

/-- A tick of a timer above 1. -/
theorem WaitsAfter.tick_of_counting (w : WaitsAfter b n c) (hleft : 1 < c.timerRem.toNat) :
    WaitsAfter b (n + 1) c.tick := by
  obtain ⟨hst, hto, hmr, hretx, hle, helapsed⟩ := w
  rw [Block.tick_of_counting hst hleft]
  have hdown : (c.timerRem - 1).toNat = c.timerRem.toNat - 1 := by bv_omega
  simp only [Block.ticksLeft] at hle helapsed
  refine ⟨hst, hto, hmr, hretx, ?_, ?_⟩ <;> simp only [Block.ticksLeft, hdown] <;> omega

/-- A tick that expires with a retry left starts the next period. -/
theorem WaitsAfter.tick_of_retryLeft (w : WaitsAfter b n c) (hleft : c.ticksLeft = 1) (hr : c.retryLeft = true) :
    WaitsAfter b (n + 1) c.tick := by
  obtain ⟨hst, hto, hmr, hretx, -, helapsed⟩ := w
  obtain ⟨-, -, -, hadd, -⟩ := Block.expireRetransmit_pending (b := c.advanceNow.countDown) hr
  simp only [Block.countDown_retriesUsed, Block.advanceNow_retriesUsed] at hadd
  rw [Block.tick_of_retryLeft hst (Block.ticksLeft_eq_one_iff.1 hleft) hr]
  have hreload : c.advanceNow.countDown.expireRetransmit.ticksLeft = b.period := by
    simp [Block.ticksLeft, Block.period, hto]
  refine ⟨by simpa using hst, by simpa using hto, by simpa using hmr, ?retx, hreload.le, ?elapsed⟩
  case retx =>
    rw [Block.expireRetransmit_retx, hadd, BitVec.ofNat_add, ← BitVec.add_assoc, ← hretx]
    rfl
  case elapsed => rw [hreload, hadd, Nat.succ_mul (_ + 1), ← helapsed, hleft]

/-- Before the last period is over the sender still waits (R220 (a)). -/
theorem waitsAfter_iterate (h : WaitsAfter b 0 b) (hn : n < (b.maxRetries.toNat + 1) * b.period) :
    WaitsAfter b n (Block.tick^[n] b) := by
  induction n with
  | zero => exact h
  | succ n ih =>
    have w := ih (Nat.lt_of_succ_lt hn)
    rw [Function.iterate_succ_apply']
    by_cases hleft : (Block.tick^[n] b).timerRem.toNat ≤ 1
    · rw [← Block.ticksLeft_eq_one_iff] at hleft
      have helapsed := w.elapsed
      rw [hleft] at helapsed
      rw [helapsed] at hn
      refine w.tick_of_retryLeft hleft (Block.retryLeft_iff.2 ?_)
      rw [w.maxRetries_eq]
      exact Nat.lt_of_succ_lt_succ (Nat.lt_of_mul_lt_mul_right hn)
    · exact w.tick_of_counting (not_le.1 hleft)

/-- On the last tick of the last period the sender fails, with the budget spent (R218, R220 (a)). -/
theorem WaitsAfter.tick_fails (w : WaitsAfter b n c) (hn : n + 1 = (b.maxRetries.toNat + 1) * b.period) :
    c.tick.txState = .failed ∧ c.tick.failCause = .retryExhausted ∧
      c.tick.retriesUsed.toNat = b.maxRetries.toNat ∧
      c.tick.counters.retx = b.counters.retx + BitVec.ofNat 32 b.maxRetries.toNat := by
  have hspent : c.retriesUsed.toNat = b.maxRetries.toNat := by
    have hpos := b.period_pos
    rw [w.retriesUsed_eq]
    rw [Nat.succ_mul] at hn
    exact Nat.div_eq_of_lt_le (by omega) (by rw [Nat.succ_mul]; omega)
  have hleft : c.ticksLeft = 1 := by
    have helapsed := w.elapsed
    rw [hspent, ← hn] at helapsed
    omega
  have hr : c.retryLeft = false := Block.retryLeft_eq_false_iff.2 (by rw [w.maxRetries_eq, hspent])
  rw [Block.tick_of_spent w.waiting (Block.ticksLeft_eq_one_iff.1 hleft) hr]
  refine ⟨rfl, rfl, hspent, ?_⟩
  rw [Block.expireFail_retx, ← hspent]
  exact w.retx_eq

end

end Sys2Proof.Machine
end

section
/-! PROOFS. The statements of 43_sender.md. -/

namespace Sys2Proof.Machine

/-- Settles O51: of the moves that start in AWAITING_ACK only a matching ACK, a spent expiry, TX_CANCEL and a reset end
outside it. -/
theorem awaitingAckIsLeftInFourWays : Obligations.AwaitingAckIsLeftInFourWays := by
  rintro i s t blk b b' h rfl rfl hbefore hafter
  cases (exec_blockMove h blk).halves.sender with
  | keep hs | fillTxbuf _ _ hs | countDown _ hs | retransmit _ _ hs =>
    obtain ⟨hst, -⟩ := hs
    exact absurd (hst.trans hbefore) hafter
  | start hne => exact absurd hbefore hne
  | send _ _ hidle | finish hidle => cases hbefore.symm.trans hidle
  | ack _ hm hs =>
    obtain ⟨hst, hns, hpv, -, -, -, htr, -⟩ := hs
    exact ⟨htr, hpv, .inl ⟨hst, hns, hm⟩⟩
  | giveUp _ hr hs =>
    obtain ⟨hst, -, hpv, -, -, hru, htr, hfc, -⟩ := hs
    exact ⟨htr, hpv, .inr (.inl ⟨hst, hfc, Block.retryLeft_eq_false_iff.1 hr, hru⟩)⟩
  | cancel _ hc hs =>
    obtain ⟨hst, -, hpv, -, -, -, htr, hfc, -⟩ := hs
    exact ⟨htr, hpv, .inr (.inr (.inl ⟨hst, hfc, hc⟩))⟩
  | reset n hq he hc hs =>
    obtain ⟨hst, hns, hpv, -, -, -, htr, -⟩ := hs
    exact ⟨htr, hpv, .inr (.inr (.inr ⟨hst, hns, hq, he, hc⟩))⟩

/-! ### Commands -/

/-- Settles O26: the first failing check decides the error, and the frame held is the fragment's. -/
theorem txSendHoldsAndEmitsTheFrame : Obligations.TxSendHoldsAndEmitsTheFrame := by
  rintro blk s b len rfl
  refine ⟨fun rsvd hr => next_onBlock (Block.issue_of_reserved hr),
    fun hst => next_onBlock (Block.issue_zero_of_error (Block.txSend_of_not_idle hst)),
    fun hst hlen => next_onBlock (Block.issue_zero_of_error (Block.txSend_of_long hst hlen)),
    fun hst hlen hseq => next_onBlock (Block.issue_zero_of_error
      (Block.txSend_of_exhausted hst hlen (eq_seqLimit_iff.2 hseq))),
    fun hst hlen hseq p f hp hf => ?send⟩
  case send =>
    subst hp hf
    exact next_onBlock (Block.issue_zero_of_ok (Block.txSend_of_ready hst hlen (mt eq_seqLimit_iff.1 hseq)))

/-- Settles O25: TX_START is refused in AWAITING_ACK alone. -/
theorem txStartOpensASession : Obligations.TxStartOpensASession := by
  rintro blk s b rfl
  exact ⟨fun rsvd hr => next_onBlock (Block.issue_of_reserved hr),
    fun hst => next_onBlock (Block.issue_zero_of_error (Block.txStart_of_awaiting hst)),
    fun hst => next_onBlock (Block.issue_zero_of_ok (Block.txStart_of_not_awaiting hst))⟩

/-- Settles O27: TX_END is refused outside IDLE. -/
theorem txEndCompletesTheTransfer : Obligations.TxEndCompletesTheTransfer := by
  rintro blk s b rfl
  exact ⟨fun rsvd hr => next_onBlock (Block.issue_of_reserved hr),
    fun hst => next_onBlock (Block.issue_zero_of_error (Block.txEnd_of_not_idle hst)),
    fun hst => next_onBlock (Block.issue_zero_of_ok (Block.txEnd_of_idle hst))⟩

/-- Settles O28: TX_CANCEL is refused once the transfer is over. -/
theorem txCancelFailsTheTransfer : Obligations.TxCancelFailsTheTransfer := by
  rintro blk s b rfl
  exact ⟨fun rsvd hr => next_onBlock (Block.issue_of_reserved hr),
    fun hst => next_onBlock (Block.issue_zero_of_error (Block.txCancel_of_over hst)),
    fun hst => next_onBlock (Block.issue_zero_of_ok (Block.txCancel_of_open hst))⟩

/-! ### ACK arrival -/

/-- Settles O29: in AWAITING_ACK the pending sequence is the one that matches. -/
theorem matchingAckAdvances : Obligations.MatchingAckAdvances := by
  rintro blk s b f seq ts rfl hv hst hseq
  have hm : (s.block blk).ackMatches seq = true := Block.ackMatches_iff.2 ⟨hst, hseq⟩
  exact (exec_rxAckMatch_of_match hv hm).trans (next_onBlock (if_pos hm))

/-- Settles O30: an ACK that does not match is reported with the code of the sender's state. -/
theorem staleAckIsCountedAndReported : Obligations.StaleAckIsCountedAndReported := by
  rintro blk s b f seq ts rfl hv hst
  have hm : ¬(s.block blk).ackMatches seq = true := mt Block.ackMatches_iff.1 hst
  refine (exec_rxAckStale_of_stale hv (Bool.not_eq_true _ ▸ hm)).trans (next_onBlock ?_)
  rw [Block.rxAck, if_neg hm, Block.rxAckStale]
  cases (s.block blk).txState <;> rfl

/-! ### The retransmission timer -/

/-- Settles O31: whether the sender waits, how many ticks are left and whether a retry is left decide the case. -/
theorem tickRunsTheTimer : Obligations.TickRunsTheTimer := by
  rintro blk s b rfl htime
  rw [exec_tick_of_timeMayPass blk (State.timeMayPass_iff.2 htime)]
  refine ⟨fun hst => next_onBlock (Block.tick_of_not_awaiting hst),
    fun hst ht => next_onBlock (Block.tick_of_counting hst ht), fun hst ht hr => next_onBlock ?retransmit,
    fun hst ht hr => next_onBlock (Block.tick_of_spent hst ht (Block.retryLeft_eq_false_iff.2 hr))⟩
  case retransmit =>
    have hleft := Block.retryLeft_iff.2 hr
    exact (Block.tick_of_retryLeft hst ht hleft).trans
      (Block.expireRetransmit_eq (b := (s.block blk).advanceNow.countDown) hleft)

/-- Settles O32: where EXPIRE runs, the budget says which row does. -/
theorem expireRetransmitsOrFails : Obligations.ExpireRetransmitsOrFails := by
  rintro blk s b rfl htime hst ht
  have hpass := State.timeMayPass_iff.2 htime
  have hexp := Block.expiring_iff.2 ⟨hst, ht⟩
  refine ⟨fun f hf hr => ?retransmit, fun hr => ?fail⟩
  case retransmit =>
    have hleft := Block.retryLeft_iff.2 hr
    have hbytes : (s.block blk).retxBytes = f := by rw [Block.retxBytes, hf]
    refine (onExpire_of_case hpass hexp hleft).trans (next_onBlock ?_)
    rw [Block.expireRetransmit_eq hleft, hbytes]
  case fail =>
    have hspent : (!(s.block blk).retryLeft) = true := by rw [Block.retryLeft_eq_false_iff.2 hr]; rfl
    refine (onExpire_of_case (cond := fun b => !b.retryLeft) hpass hexp hspent).trans (next_onBlock ?_)
    rw [ht]
    rfl

/-- Settles O57: the sender waits through every tick of its `r + 1` periods but the last one, which fails. -/
theorem retryBoundOverTicks : Obligations.RetryBoundOverTicks := by
  rintro blk s b T r rfl htime hst hru hrem hT rfl
  obtain rfl : T = (s.block blk).period := hT
  have hrun := runTicks_of_timeMayPass blk (State.timeMayPass_iff.2 htime)
  have hsent := waitsAfter_zero hst hru hrem
  refine ⟨fun n hn => ⟨_, hrun n, ?waits⟩, _, hrun _, ?fails⟩
  case waits =>
    have w := waitsAfter_iterate hsent hn
    rw [State.block_setBlock_same]
    exact ⟨w.waiting, w.retriesUsed_eq, w.retriesUsed_eq ▸ w.retx_eq⟩
  case fails =>
    obtain ⟨n, hn⟩ := Nat.exists_eq_succ_of_ne_zero
      (Nat.mul_pos (Nat.succ_pos (s.block blk).maxRetries.toNat) (s.block blk).period_pos).ne'
    have w := waitsAfter_iterate (n := n) hsent (hn ▸ Nat.lt_succ_self n)
    rw [State.block_setBlock_same, hn, Function.iterate_succ_apply']
    exact w.tick_fails hn.symm

end Sys2Proof.Machine
end

section
/-! SUPPORT. The receiver's rows and rules by the class of the frame's sequence (R240 to R245), and the rule of
RX_RELEASE (R249). -/

namespace Sys2Proof.Machine

/-! ### The rows of a valid DATA frame -/

section
variable {blk : BlockId} {f : Frame} {s : State} {seq ts : Word} {p : Frame}

/-- A row of one class runs its rule on valid DATA of that class. -/
theorem onData_of_class {c : DataClass} {run : Word → Frame → Block → Block}
    (hv : (s.block blk).verdict f = .valid .data seq p ts) (hc : (s.block blk).classify seq = c) :
    onData blk f (· == c) run s = .next (s.onBlock blk (run seq p)) := by
  simp only [onData, hv, hc, beq_self_eq_true, if_true]

variable (hv : (s.block blk).verdict f = .valid .data seq p ts)
include hv

theorem exec_rxAccept_of_accept (hc : (s.block blk).classify seq = .accept) :
    exec (.rxAccept blk f) s = .next (s.onBlock blk (Block.rxAccept seq p)) :=
  onData_of_class (run := Block.rxAccept) hv hc

theorem exec_rxSinkBusy_of_sinkBusy (hc : (s.block blk).classify seq = .sinkBusy) :
    exec (.rxSinkBusy blk f) s = .next (s.onBlock blk (Block.rxSinkBusy seq)) :=
  onData_of_class (run := fun seq _ => Block.rxSinkBusy seq) hv hc

theorem exec_rxDuplicate_of_duplicate (hc : (s.block blk).classify seq = .duplicate) :
    exec (.rxDuplicate blk f) s = .next (s.onBlock blk (Block.rxDuplicate seq)) :=
  onData_of_class (run := fun seq _ => Block.rxDuplicate seq) hv hc

theorem exec_rxFuture_of_future (hc : (s.block blk).classify seq = .future) :
    exec (.rxFuture blk f) s = .next (s.onBlock blk (Block.rxFuture seq)) :=
  onData_of_class (run := fun seq _ => Block.rxFuture seq) hv hc

/-- RX_DATA completes, and as a row that runs the same rule. -/
theorem exec_rxData_eq_row {row : Instr} {rule : Block → Block} (hrow : exec row s = .next (s.onBlock blk rule))
    (hrule : (s.block blk).rxData seq p = rule (s.block blk)) :
    exec (.rxData blk f) s = exec row s ∧ ∃ t, exec (.rxData blk f) s = .next t := by
  have hdata := exec_rxData_of_data hv
  exact ⟨by rw [hdata, hrow, next_onBlock hrule, State.onBlock_eq], _, hdata⟩

end

/-! ### RX_DATA by its class -/

section
variable {b : Block} {s : Word} {p : Frame}

theorem Block.rxData_of_accept (hc : b.classify s = .accept) : b.rxData s p = b.rxAccept s p := by
  rw [Block.rxData, hc]

theorem Block.rxData_of_sinkBusy (hc : b.classify s = .sinkBusy) : b.rxData s p = b.rxSinkBusy s := by
  rw [Block.rxData, hc]

theorem Block.rxData_of_duplicate (hc : b.classify s = .duplicate) : b.rxData s p = b.rxDuplicate s := by
  rw [Block.rxData, hc]

theorem Block.rxData_of_future (hc : b.classify s = .future) : b.rxData s p = b.rxFuture s := by
  rw [Block.rxData, hc]

end

/-! ### What the rules write -/

/-- R42, R241: a payload within the buffer's limit is stored whole, and the bytes above it keep what they held. -/
theorem Memory.load?_storeBelow_zero {limit : Nat} {p : List Byte} (h : p.length ≤ limit) (m : Memory) (j : Nat) :
    Memory.load? (Memory.storeBelow limit 0 p m) j = if j < p.length then p[j]? else Memory.load? m j := by
  rw [Memory.load?_storeBelow]
  refine ite_congr (propext ?_) (fun _ => rfl) fun _ => rfl
  omega

theorem Block.setIrq_cnt (bit : IrqBit) (c : Counter) (b : Block) :
    (b.cnt c).setIrq bit = (b.setIrq bit).cnt c := rfl

/-- R241, R245: RX_ACCEPT writes the receiver session and RX_DELIVER, and what follows is counted, reported and
acknowledged. -/
theorem Block.rxAccept_eq (s : Word) (p : Frame) (b : Block) :
    b.rxAccept s p =
      ((((({ b with
          rxbuf := Memory.storeBelow b.par.maxPayload 0 p b.rxbuf
          deliverLen := BitVec.ofNat 16 p.length, deliverSeq := s, deliverValid := true
          delivered := b.delivered ++ [p], expSeq := b.expSeq + 1
          irqStatus := b.irqStatus ||| 0b00100 }).cnt .rxAccept).pushEvent .dataAccepted 0 s).emitFrame
            (frameEncode .ack s [] b.now)).cnt .txAck).pushEvent .ackSent 0 s := by
  simp only [Block.rxAccept, Block.sendAck, Block.setIrq_cnt, Block.pushEvent_now, Block.cnt_now, Block.setIrq_now,
    Block.takePayload_now]
  rfl

/-- R76, R245: where TXQ has room, SEND_ACK appends the ACK stamped with NOW. -/
theorem Block.sendAck_txq_of_room {b : Block} (s : Word) (h : b.txq.length < b.par.txqDepth) :
    (b.sendAck s).txq = b.txq ++ [frameEncode .ack s [] b.now] := by
  rcases b.emitFrame_cases (frameEncode .ack s [] b.now) with ⟨-, he⟩ | ⟨hfull, -⟩
  · simp [Block.sendAck, he]
  · exact absurd h hfull.not_gt

/-- R243: where TXQ has room, RX_DUPLICATE appends the ACK and nothing else. -/
theorem Block.rxDuplicate_txq_of_room {b : Block} (s : Word) (h : b.txq.length < b.par.txqDepth) :
    (b.rxDuplicate s).txq = b.txq ++ [frameEncode .ack s [] b.now] := by
  rw [Block.rxDuplicate, Block.sendAck_txq_of_room s (by simpa using h)]
  simp

theorem Block.rxRelease_of_held {b : Block} (h : b.deliverValid = true) :
    b.rxRelease = .ok { b with deliverValid := false } := if_pos h

theorem Block.rxRelease_of_free {b : Block} (h : b.deliverValid = false) : b.rxRelease = .error .empty :=
  if_neg (by simp [h])

end Sys2Proof.Machine
end

section
/-! PROOFS. The statements of 44_receiver.md. -/

namespace Sys2Proof.Machine

/-! ### DATA arrival -/

/-- Settles O33: the class of the sequence chooses the rule, and the row of that class runs it. -/
theorem rxDataClassifiesTheSequence : Obligations.RxDataClassifiesTheSequence := by
  rintro blk s b f p seq ts rfl hv
  refine ⟨fun hseq hfree => ?accept, fun hseq hheld => ?sinkBusy, fun hlt => ?duplicate, fun hlt => ?future⟩
  case accept =>
    have hc := Block.classify_eq_accept_iff.2 ⟨hseq, hfree⟩
    exact exec_rxData_eq_row hv (exec_rxAccept_of_accept hv hc) (Block.rxData_of_accept hc)
  case sinkBusy =>
    have hc := Block.classify_eq_sinkBusy_iff.2 ⟨hseq, hheld⟩
    exact exec_rxData_eq_row hv (exec_rxSinkBusy_of_sinkBusy hv hc) (Block.rxData_of_sinkBusy hc)
  case duplicate =>
    have hc := Block.classify_eq_duplicate_iff.2 hlt
    exact exec_rxData_eq_row hv (exec_rxDuplicate_of_duplicate hv hc) (Block.rxData_of_duplicate hc)
  case future =>
    have hc := Block.classify_eq_future_iff.2 hlt
    exact exec_rxData_eq_row hv (exec_rxFuture_of_future hv hc) (Block.rxData_of_future hc)

/-- Settles O34: the payload that the verifier reports fits RXBUF, so all of it is stored. -/
theorem rxAcceptDeliversAndAcknowledges : Obligations.RxAcceptDeliversAndAcknowledges := by
  rintro blk s b f p seq ts rfl hv hseq hfree
  have hc := Block.classify_eq_accept_iff.2 ⟨hseq, hfree⟩
  obtain ⟨hfits, -⟩ := frameDecode_valid hv
  exact ⟨_, (exec_rxAccept_of_accept hv hc).trans (next_onBlock (Block.rxAccept_eq seq p _)),
    Memory.load?_storeBelow_zero hfits _⟩

/-- Settles O35: each class has its row, whose rule counts, reports and, for a duplicate, acknowledges. -/
theorem otherDataChangesNoSession : Obligations.OtherDataChangesNoSession := by
  rintro blk s b f p seq ts rfl hv
  exact ⟨fun hseq hheld => exec_rxSinkBusy_of_sinkBusy hv (Block.classify_eq_sinkBusy_iff.2 ⟨hseq, hheld⟩),
    fun hlt => exec_rxDuplicate_of_duplicate hv (Block.classify_eq_duplicate_iff.2 hlt),
    fun hlt => exec_rxFuture_of_future hv (Block.classify_eq_future_iff.2 hlt)⟩

/-- Settles O40: LINK_RX resolves the counted frame into RX_DUPLICATE, whose one write to TXQ is SEND_ACK's. -/
theorem duplicatesAreAcknowledgedNotDelivered : Obligations.DuplicatesAreAcknowledgedNotDelivered := by
  rintro blk s b f p seq ts rfl hv hlt hroom
  have hrule : (s.block blk).linkRx f = ((s.block blk).cnt .rxFrames).rxDuplicate seq := by
    have hc : ((s.block blk).cnt .rxFrames).classify seq = .duplicate := Block.classify_eq_duplicate_iff.2 hlt
    rw [Block.linkRx, Block.verdict, hv]
    exact Block.rxData_of_duplicate hc
  exact ⟨_, next_onBlock hrule, by simp [Block.rxDuplicate], by simp [Block.rxDuplicate],
    Block.rxDuplicate_txq_of_room seq hroom⟩

/-! ### Commands -/

/-- Settles O36: RX_RESET always completes, and RX_RELEASE completes where a payload is held. -/
theorem receiverCommandsComplete : Obligations.ReceiverCommandsComplete := by
  rintro blk s b rfl
  exact ⟨fun rsvd => next_onBlock (Block.issue_of_ok (run := Block.rxReset) rfl rsvd),
    fun rsvd hr => next_onBlock (Block.issue_of_reserved hr),
    fun hheld => next_onBlock (Block.issue_zero_of_ok (Block.rxRelease_of_held hheld)),
    fun hfree => next_onBlock (Block.issue_zero_of_error (Block.rxRelease_of_free hfree))⟩

end Sys2Proof.Machine
end

section
/-! SUPPORT. What an operation neither reads nor writes: each rule of one half of a block commutes with the replacement
of the other half (R284), an operation leaves the agents that it does not act on (R302), and a command error leaves
the block (R270, R277). -/

namespace Sys2Proof.Machine

/-! ### The rules of the receiver half do not read the sender session -/

section
variable (b c : Block)

@[simp] theorem Block.withSenderOf_verdict (f : Frame) : (Block.withSenderOf c b).verdict f = b.verdict f := rfl
@[simp] theorem Block.withSenderOf_classify (s : Word) : (Block.withSenderOf c b).classify s = b.classify s := rfl
@[simp] theorem Block.withSenderOf_takePayload (s : Word) (p : Frame) :
    (Block.withSenderOf c b).takePayload s p = Block.withSenderOf c (b.takePayload s p) := rfl
@[simp] theorem Block.withSenderOf_sendAck (s : Word) :
    (Block.withSenderOf c b).sendAck s = Block.withSenderOf c (b.sendAck s) := by simp [Block.sendAck]

@[simp] theorem Block.withSenderOf_rxAccept (s : Word) (p : Frame) :
    (Block.withSenderOf c b).rxAccept s p = Block.withSenderOf c (b.rxAccept s p) := by simp [Block.rxAccept]
@[simp] theorem Block.withSenderOf_rxSinkBusy (s : Word) :
    (Block.withSenderOf c b).rxSinkBusy s = Block.withSenderOf c (b.rxSinkBusy s) := by simp [Block.rxSinkBusy]
@[simp] theorem Block.withSenderOf_rxDuplicate (s : Word) :
    (Block.withSenderOf c b).rxDuplicate s = Block.withSenderOf c (b.rxDuplicate s) := by simp [Block.rxDuplicate]
@[simp] theorem Block.withSenderOf_rxFuture (s : Word) :
    (Block.withSenderOf c b).rxFuture s = Block.withSenderOf c (b.rxFuture s) := by simp [Block.rxFuture]

theorem Block.withSenderOf_rxData (s : Word) (p : Frame) :
    (Block.withSenderOf c b).rxData s p = Block.withSenderOf c (b.rxData s p) := by
  simp only [Block.rxData, Block.withSenderOf_classify]
  split <;> simp

theorem Block.withSenderOf_rxRelease :
    (Block.withSenderOf c b).rxRelease = b.rxRelease.map (Block.withSenderOf c) := by
  rw [Block.rxRelease, Block.rxRelease, apply_ite (Except.map _)]
  rfl

end

/-! ### The rules of the sender half do not read the receiver session -/

section
variable (b c : Block)

@[simp] theorem Block.withReceiverOf_verdict (f : Frame) : (Block.withReceiverOf c b).verdict f = b.verdict f := rfl
@[simp] theorem Block.withReceiverOf_ackMatches (s : Word) :
    (Block.withReceiverOf c b).ackMatches s = b.ackMatches s := rfl
@[simp] theorem Block.withReceiverOf_expiring : (Block.withReceiverOf c b).expiring = b.expiring := rfl
@[simp] theorem Block.withReceiverOf_retryLeft : (Block.withReceiverOf c b).retryLeft = b.retryLeft := rfl
@[simp] theorem Block.withReceiverOf_wireSeq : (Block.withReceiverOf c b).wireSeq = b.wireSeq := rfl
@[simp] theorem Block.withReceiverOf_cancelSeq : (Block.withReceiverOf c b).cancelSeq = b.cancelSeq := rfl
@[simp] theorem Block.withReceiverOf_retxBytes : (Block.withReceiverOf c b).retxBytes = b.retxBytes := rfl
@[simp] theorem Block.withReceiverOf_fragmentFrame (len : Half) (fill : Nat → Byte) :
    (Block.withReceiverOf c b).fragmentFrame len fill = b.fragmentFrame len fill := rfl

@[simp] theorem Block.withReceiverOf_holdFrame (len : Half) (f : Frame) :
    (Block.withReceiverOf c b).holdFrame len f = Block.withReceiverOf c (b.holdFrame len f) := rfl
@[simp] theorem Block.withReceiverOf_failWith (cause : FailCause) :
    (Block.withReceiverOf c b).failWith cause = Block.withReceiverOf c (b.failWith cause) := rfl
@[simp] theorem Block.withReceiverOf_advanceNow :
    (Block.withReceiverOf c b).advanceNow = Block.withReceiverOf c b.advanceNow := rfl
@[simp] theorem Block.withReceiverOf_countDown :
    (Block.withReceiverOf c b).countDown = Block.withReceiverOf c b.countDown := rfl
@[simp] theorem Block.withReceiverOf_sendFragment (len : Half) (fill : Nat → Byte) :
    (Block.withReceiverOf c b).sendFragment len fill = Block.withReceiverOf c (b.sendFragment len fill) := by
  simp [Block.sendFragment]

theorem Block.withReceiverOf_rxAckMatch (s : Word) :
    (Block.withReceiverOf c b).rxAckMatch s = Block.withReceiverOf c (b.rxAckMatch s) := rfl
theorem Block.withReceiverOf_rxAckStale (s : Word) :
    (Block.withReceiverOf c b).rxAckStale s = Block.withReceiverOf c (b.rxAckStale s) := by
  simp [Block.rxAckStale]
@[simp] theorem Block.withReceiverOf_expireRetransmit :
    (Block.withReceiverOf c b).expireRetransmit = Block.withReceiverOf c b.expireRetransmit := rfl
@[simp] theorem Block.withReceiverOf_expireFail :
    (Block.withReceiverOf c b).expireFail = Block.withReceiverOf c b.expireFail := by simp [Block.expireFail]

theorem Block.withReceiverOf_tick : (Block.withReceiverOf c b).tick = Block.withReceiverOf c b.tick := by
  simp only [Block.tick, Block.runTimer, Block.expire, Block.withReceiverOf_advanceNow,
    Block.withReceiverOf_countDown, Block.withReceiverOf_txState, Block.withReceiverOf_expiring,
    Block.withReceiverOf_retryLeft, Block.withReceiverOf_expireRetransmit, Block.withReceiverOf_expireFail]
  split_ifs <;> rfl

theorem Block.withReceiverOf_txStart :
    (Block.withReceiverOf c b).txStart = b.txStart.map (Block.withReceiverOf c) := by
  rw [Block.txStart, Block.txStart, apply_ite (Except.map _)]
  rfl

theorem Block.withReceiverOf_txSend (len : Half) (fill : Nat → Byte) :
    (Block.withReceiverOf c b).txSend len fill = (b.txSend len fill).map (Block.withReceiverOf c) := by
  rw [Block.txSend, Block.txSend, apply_ite (Except.map _), apply_ite (Except.map _), apply_ite (Except.map _),
    Block.withReceiverOf_sendFragment]
  rfl

theorem Block.withReceiverOf_txEnd : (Block.withReceiverOf c b).txEnd = b.txEnd.map (Block.withReceiverOf c) := by
  rw [Block.txEnd, Block.txEnd, apply_ite (Except.map _)]
  rfl

theorem Block.withReceiverOf_txCancel :
    (Block.withReceiverOf c b).txCancel = b.txCancel.map (Block.withReceiverOf c) := by
  rw [Block.txCancel, Block.txCancel, apply_ite (Except.map _)]
  rfl

end

/-! ### Operations on a system with one half of a block replaced -/

section
variable {blk k : BlockId} {s t : State} {g : Block → Block}

@[simp] theorem State.onBlock_link (f : Block → Block) : (s.onBlock blk f).link = s.link := State.setBlock_link ..
@[simp] theorem State.onBlock_draws (f : Block → Block) : (s.onBlock blk f).draws = s.draws := State.setBlock_draws ..

theorem State.onBlock_fill (f : Block → Block) : (s.onBlock blk f).fill = s.fill := by
  rw [State.fill, State.onBlock_draws, State.fill]

theorem State.onBlock_timeMayPass (f : Block → Block) : (s.onBlock blk f).timeMayPass = s.timeMayPass := by
  rw [State.timeMayPass, State.onBlock_link, State.timeMayPass]

theorem next_onBlock_comm {f : Block → Block} (h : ∀ b, f (g b) = g (f b)) :
    (.next ((s.onBlock blk g).onBlock k f) : StepOutcome) = .next ((s.onBlock k f).onBlock blk g) := by
  rw [State.onBlock_comm s blk k f g h]

/-- A command commutes with an update that its rule and the recording of its result commute with. -/
theorem Block.issue_comm {n : Nat} {op : Byte} {rsvd : BitVec n} {run : Block → Except CmdError Block}
    (hrec : ∀ op r b, Block.record op r (g b) = g (b.record op r)) (hrun : ∀ b, run (g b) = (run b).map g) (b : Block) :
    (g b).issue op rsvd run = g (b.issue op rsvd run) := by
  simp only [Block.issue, Block.finish, hrun]
  split_ifs
  · cases run b <;> exact hrec ..
  · exact hrec ..

theorem Block.issue_withSenderOf {n : Nat} {op : Byte} {rsvd : BitVec n} {run : Block → Except CmdError Block}
    {c : Block} (hrun : ∀ b, run (Block.withSenderOf c b) = (run b).map (Block.withSenderOf c)) (b : Block) :
    (Block.withSenderOf c b).issue op rsvd run = Block.withSenderOf c (b.issue op rsvd run) :=
  Block.issue_comm (fun op r b => Block.withSenderOf_record b c op r) hrun b

theorem Block.issue_withReceiverOf {n : Nat} {op : Byte} {rsvd : BitVec n} {run : Block → Except CmdError Block}
    {c : Block} (hrun : ∀ b, run (Block.withReceiverOf c b) = (run b).map (Block.withReceiverOf c)) (b : Block) :
    (Block.withReceiverOf c b).issue op rsvd run = Block.withReceiverOf c (b.issue op rsvd run) :=
  Block.issue_comm (fun op r b => Block.withReceiverOf_record b c op r) hrun b

/-- The row of a valid DATA frame, with another sender session. -/
theorem onData_withSenderOf {c : Block} {f : Frame} {cond : DataClass → Bool} {run : Word → Frame → Block → Block}
    (hrun : ∀ seq p b, run seq p (Block.withSenderOf c b) = Block.withSenderOf c (run seq p b))
    (h : onData k f cond run s = .next t) :
    onData k f cond run (s.onBlock blk (Block.withSenderOf c)) = .next (t.onBlock blk (Block.withSenderOf c)) := by
  obtain ⟨seq, p, ts, hv, hc, rfl⟩ := onData_next h
  rw [← State.onBlock_keeps s blk k _ (·.verdict f) (Block.withSenderOf_verdict · c f)] at hv
  rw [← State.onBlock_keeps s blk k _ (·.classify seq) (Block.withSenderOf_classify · c seq)] at hc
  simp only [onData, hv, hc, if_true]
  exact next_onBlock_comm (hrun seq p)

/-- The row of a valid ACK, with another receiver session. -/
theorem onAck_withReceiverOf {c : Block} {f : Frame} {cond : Word → Block → Bool} {run : Word → Block → Block}
    (hcond : ∀ seq b, cond seq (Block.withReceiverOf c b) = cond seq b)
    (hrun : ∀ seq b, run seq (Block.withReceiverOf c b) = Block.withReceiverOf c (run seq b))
    (h : onAck k f cond run s = .next t) :
    onAck k f cond run (s.onBlock blk (Block.withReceiverOf c)) = .next (t.onBlock blk (Block.withReceiverOf c)) := by
  obtain ⟨seq, p, ts, hv, hc, rfl⟩ := onAck_next h
  rw [← State.onBlock_keeps s blk k _ (·.verdict f) (Block.withReceiverOf_verdict · c f)] at hv
  rw [← State.onBlock_keeps s blk k _ (cond seq) (hcond seq)] at hc
  simp only [onAck, hv, hc, if_true]
  exact next_onBlock_comm (hrun seq)

/-- The row of one EXPIRE, with another receiver session. -/
theorem onExpire_withReceiverOf {c : Block} {cond : Block → Bool} {run : Block → Block}
    (hcond : ∀ b, cond (Block.withReceiverOf c b) = cond b)
    (hrun : ∀ b, run (Block.withReceiverOf c b) = Block.withReceiverOf c (run b))
    (h : onExpire k cond run s = .next t) :
    onExpire k cond run (s.onBlock blk (Block.withReceiverOf c)) = .next (t.onBlock blk (Block.withReceiverOf c)) := by
  obtain ⟨ht, hst, hrem, hc, rfl⟩ := onExpire_next h
  have he : (s.block k).expiring = true := Block.expiring_iff.2 ⟨hst, hrem⟩
  rw [← State.onBlock_keeps s blk k _ Block.expiring (Block.withReceiverOf_expiring · c)] at he
  rw [← State.onBlock_keeps s blk k _ cond hcond] at hc
  rw [onExpire_of_case (by rwa [State.onBlock_timeMayPass]) he hc]
  exact next_onBlock_comm hrun

theorem State.sysTickEnabled_withReceiverOf (c : Block) :
    (s.onBlock blk (Block.withReceiverOf c)).sysTickEnabled = s.sysTickEnabled := by cases blk <;> rfl

theorem State.sysTick_withReceiverOf (c : Block) :
    (s.onBlock blk (Block.withReceiverOf c)).sysTick = s.sysTick.onBlock blk (Block.withReceiverOf c) := by
  cases blk <;>
    simp [State.sysTick, State.onBlock, State.setBlock, State.block, Block.withReceiverOf_tick]

end

/-! ### A half replaced by itself -/

theorem Block.sameSender_of_eq_withSenderOf {b b' : Block} (h : b' = Block.withSenderOf b b') : b.sameSender b' := by
  rw [h]; simp [Block.sameSender]

theorem Block.sameReceiver_of_eq_withReceiverOf {b b' : Block} (h : b' = Block.withReceiverOf b b') :
    b.sameReceiver b' := by
  rw [h]; simp [Block.sameReceiver]

/-- An operation that commutes with an update of a block, run where the update changes nothing, ends in a block that the
update does not change either. -/
theorem block_fixed_of_comm {i : Instr} {s t : State} {blk : BlockId} {g : Block → Block} (h : exec i s = .next t)
    (hfix : g (s.block blk) = s.block blk) (hcomm : exec i (s.onBlock blk g) = .next (t.onBlock blk g)) :
    t.block blk = g (t.block blk) := by
  have hs : s.onBlock blk g = s := by rw [State.onBlock, hfix, State.setBlock_block]
  rw [hs, h, Host.Outcome.next.injEq] at hcomm
  calc t.block blk = (t.onBlock blk g).block blk := congrArg (State.block · blk) hcomm
    _ = g (t.block blk) := State.block_setBlock_same ..

/-! ### What an operation leaves of the system -/

theorem execTick_next {k : BlockId} {s t : State} (h : execTick k s = .next t) :
    s.timeMayPass = true ∧ t = s.onBlock k Block.tick := by
  unfold execTick at h
  split at h
  · cases h; exact ⟨by assumption, rfl⟩
  · cases h

theorem execLinkTake_next {k : BlockId} {s t : State} (h : execLinkTake k s = .next t) :
    ∃ f rest, t = (s.onBlock k fun b => { b with txq := rest }).admitFrame k.outbound f := by
  unfold execLinkTake at h
  split at h
  · cases h
  · cases h; exact ⟨_, _, rfl⟩

theorem execLinkDeliver_next {d : Direction} {f : Frame} {s t : State} (h : execLinkDeliver d f s = .next t) :
    ∃ fl, t = State.onBlock d.dst (Block.linkRx f) { s with link := s.link.setFlight d fl } := by
  unfold execLinkDeliver at h
  split at h
  · cases h; exact ⟨_, rfl⟩
  · cases h

theorem execSysTick_next {s t : State} (h : execSysTick s = .next t) : s.sysTickEnabled = true ∧ t = s.sysTick := by
  unfold execSysTick at h
  split at h
  · cases h; exact ⟨by assumption, rfl⟩
  · cases h

/-- An operation that does not act on the link agent is an update of the one block that it acts on. -/
theorem exec_eq_onBlock {i : Instr} {s t : State} (h : exec i s = .next t) (hlink : actsOnLink i = false) :
    ∃ k f, (∀ blk, actsOn blk i = (k == blk)) ∧ t = s.onBlock k f := by
  cases i with
  | linkTake | linkAdmit | linkDeliver | sysTick => cases hlink
  | hostRead k | hostWrite k | nop k | txStart k | txSend k | txEnd k | txCancel k | rxReset k | rxRelease k
  | evqPop k | clrCounters k | softReset k | illegalOpcode k | linkRx k | reset k =>
    cases h
    exact ⟨k, _, fun _ => rfl, rfl⟩
  | rxInvalid k =>
    simp only [exec, execRxInvalid] at h
    split at h <;> cases h
    all_goals exact ⟨k, _, fun _ => rfl, rfl⟩
  | rxAckMatch k | rxAckStale k =>
    simp only [exec, execRxAckMatch, execRxAckStale] at h
    obtain ⟨_, _, _, -, -, rfl⟩ := onAck_next h
    exact ⟨k, _, fun _ => rfl, rfl⟩
  | rxData k | rxAccept k | rxSinkBusy k | rxDuplicate k | rxFuture k =>
    simp only [exec, execRxData, execRxAccept, execRxSinkBusy, execRxDuplicate, execRxFuture] at h
    obtain ⟨_, _, _, -, -, rfl⟩ := onData_next h
    exact ⟨k, _, fun _ => rfl, rfl⟩
  | tick k =>
    obtain ⟨-, rfl⟩ := execTick_next h
    exact ⟨k, _, fun _ => rfl, rfl⟩
  | expireRetransmit k | expireFail k =>
    simp only [exec, execExpireRetransmit, execExpireFail] at h
    obtain ⟨-, -, -, -, rfl⟩ := onExpire_next h
    exact ⟨k, _, fun _ => rfl, rfl⟩

theorem State.block_onBlock_other (s : State) {k blk : BlockId} (f : Block → Block) (h : (k == blk) = false) :
    (s.onBlock k f).block blk = s.block blk :=
  State.block_setBlock_other s _ (ne_of_beq_false h).symm

/-- What no operation writes outside the blocks: the link model and the profiles (R181, R185), and what the model's
`step` alone writes (log entries 2 and 4). -/
structure State.SameSetup (s t : State) : Prop where
  model_eq : t.link.model = s.link.model
  profileAB_eq : t.link.profileAB = s.link.profileAB
  profileBA_eq : t.link.profileBA = s.link.profileBA
  offered_eq : t.offered = s.offered
  draws_eq : t.draws = s.draws

theorem State.sameSetup_onBlock (s : State) (k : BlockId) (f : Block → Block) : s.SameSetup (s.onBlock k f) := by
  cases k <;> exact ⟨rfl, rfl, rfl, rfl, rfl⟩

theorem State.sameSetup_setFlight (s : State) (d : Direction) (fl : List (Frame × Nat)) :
    s.SameSetup { s with link := s.link.setFlight d fl } := by
  cases d <;> exact ⟨rfl, rfl, rfl, rfl, rfl⟩

theorem State.sameSetup_admitFrame (s : State) (d : Direction) (f : Frame) : s.SameSetup (s.admitFrame d f) := by
  obtain ⟨c, hc⟩ := s.exists_takesChoice
  rw [State.admitFrame_of_takesChoice hc]
  cases d <;> exact ⟨rfl, rfl, rfl, rfl, rfl⟩

theorem State.SameSetup.trans {s t u : State} (h : s.SameSetup t) (h' : t.SameSetup u) : s.SameSetup u where
  model_eq := h'.model_eq.trans h.model_eq
  profileAB_eq := h'.profileAB_eq.trans h.profileAB_eq
  profileBA_eq := h'.profileBA_eq.trans h.profileBA_eq
  offered_eq := h'.offered_eq.trans h.offered_eq
  draws_eq := h'.draws_eq.trans h.draws_eq

theorem exec_sameSetup {i : Instr} {s t : State} (h : exec i s = .next t) : s.SameSetup t := by
  cases hlink : actsOnLink i with
  | false =>
    obtain ⟨k, f, -, rfl⟩ := exec_eq_onBlock h hlink
    exact s.sameSetup_onBlock k f
  | true =>
    cases i with
    | linkTake k =>
      obtain ⟨f, rest, rfl⟩ := execLinkTake_next h
      exact (s.sameSetup_onBlock k _).trans (State.sameSetup_admitFrame _ _ _)
    | linkAdmit d f => cases h; exact s.sameSetup_admitFrame d f
    | linkDeliver d f =>
      obtain ⟨fl, rfl⟩ := execLinkDeliver_next h
      exact (s.sameSetup_setFlight d fl).trans (State.sameSetup_onBlock _ _ _)
    | sysTick =>
      obtain ⟨-, rfl⟩ := execSysTick_next h
      exact ⟨rfl, rfl, rfl, rfl, rfl⟩
    | _ => cases hlink

theorem exec_block_other {i : Instr} {s t : State} (h : exec i s = .next t) {blk : BlockId}
    (hblk : actsOn blk i = false) : t.block blk = s.block blk := by
  cases hlink : actsOnLink i with
  | false =>
    obtain ⟨k, f, hk, rfl⟩ := exec_eq_onBlock h hlink
    exact s.block_onBlock_other f (hk blk ▸ hblk)
  | true =>
    cases i with
    | linkTake k =>
      obtain ⟨f, rest, rfl⟩ := execLinkTake_next h
      rw [State.block_admitFrame, s.block_onBlock_other _ hblk]
    | linkAdmit d f => cases h; exact State.block_admitFrame d f s blk
    | linkDeliver d f =>
      obtain ⟨fl, rfl⟩ := execLinkDeliver_next h
      rw [State.block_onBlock_other _ _ hblk, State.block_withLink]
    | sysTick => cases hblk
    | _ => cases hlink

/-! ### The end of a command -/

/-- R270: the code of every error lies in 0x01 to 0x06. -/
theorem resultCode_error_range (e : CmdError) : 1 ≤ (resultCode (some e)).toNat ∧ (resultCode (some e)).toNat ≤ 6 := by
  cases e <;> decide

/-- R270, R277: a block at the end of a command with opcode `op`: OK is recorded, or nothing but an error is. -/
def Block.CommandEnds (op : Byte) (b b' : Block) : Prop :=
  b'.cmdStatus = (0 : Half) ++ op ++ (0 : Byte) ∨
    ∃ code : Byte, 1 ≤ code.toNat ∧ code.toNat ≤ 6 ∧ b' = b.withError op code

theorem Block.commandEnds_error (op : Byte) (e : CmdError) (b : Block) : b.CommandEnds op (b.record op (some e)) :=
  .inr ⟨_, (resultCode_error_range e).1, (resultCode_error_range e).2, Block.record_error op e b⟩

theorem Block.commandEnds_issue {n : Nat} (op : Byte) (rsvd : BitVec n) (run : Block → Except CmdError Block)
    (b : Block) : b.CommandEnds op (b.issue op rsvd run) := by
  rcases b.issue_cases op rsvd run with ⟨-, he⟩ | ⟨-, e, -, he⟩ | ⟨-, b', -, he⟩ <;> rw [he]
  · exact b.commandEnds_error op _
  · exact b.commandEnds_error op e
  · exact .inl rfl

theorem Block.commandEnds_command (w : Word) (fill : Nat → Byte) (n : Nat) (b : Block) :
    b.CommandEnds (opcodeOf w) (b.command w fill n) := by
  rcases b.command_cases w fill n with ⟨_, rsvd, run, -, he⟩ | he <;> rw [he]
  · exact b.commandEnds_issue (opcodeOf w) rsvd run
  · exact b.commandEnds_error (opcodeOf w) .illegalOpcode

end Sys2Proof.Machine
end

section
/-! PROOFS. The statements of 60_exceptions.md. -/

namespace Sys2Proof.Machine

/-! ### Events, the interrupt output and command errors -/

/-- Settles O12: the two ends of `push_event`, told apart by the room in the queue. -/
theorem pushEventNeverBlocks : Obligations.PushEventNeverBlocks := by
  intro b code sub seq
  rcases b.pushEvent_cases code sub seq with ⟨hroom, he⟩ | ⟨hfull, he⟩
  · exact ⟨fun _ => he, fun hfull => absurd hroom hfull.not_gt⟩
  · exact ⟨fun hroom => absurd hroom hfull.not_gt, fun _ => he⟩

/-- Settles O15: a word of five bits is not 0 when one of its bits is set. -/
theorem irqIsPendingAndEnabled : Obligations.IrqIsPendingAndEnabled := by
  intro b
  calc b.irq = true
    _ ↔ ¬b.irqStatus &&& b.irqEnable = 0 := bne_iff_ne
    _ ↔ ∃ i, i < 5 ∧ (b.irqStatus &&& b.irqEnable).getLsbD i = true := by
      simp only [BitVec.eq_of_getLsbD_eq_iff, BitVec.ofNat_eq_ofNat, BitVec.getLsbD_zero, not_forall,
        Bool.not_eq_false, exists_prop]
    _ ↔ _ := by simp only [BitVec.getLsbD_and, Bool.and_eq_true]

/-- Settles O20: COMMAND runs the rule of a command, or records an illegal opcode. -/
theorem commandErrorsArePrecise : Obligations.CommandErrorsArePrecise := fun _ _ _ =>
  ⟨_, exec_decodeCommand .., Block.commandEnds_command ..⟩

/-! ### The agents of the system -/

/-- Settles O47: an operation that leaves the link agent alone updates one block; the other four are LINK_TAKE,
LINK_ADMIT, LINK_DELIVER and SYS_TICK. -/
theorem operationsStayOnTheirAgents : Obligations.OperationsStayOnTheirAgents := by
  intro i s t h
  have hset := exec_sameSetup h
  refine ⟨fun blk => exec_block_other h, fun hlink => ?link, fun blk => (exec_blockMove h blk).halves.par_eq,
    hset.model_eq, hset.profileAB_eq, hset.profileBA_eq, hset.offered_eq, hset.draws_eq⟩
  case link =>
    obtain ⟨k, f, -, rfl⟩ := exec_eq_onBlock h hlink
    exact State.onBlock_link f

/-! ### The halves of a block -/

/-- Settles O49: each rule of the receiver half commutes with the replacement of a sender session, and the frame's
verdict and class do not depend on it. -/
theorem receiverDoesNotReadTheSender : Obligations.ReceiverDoesNotReadTheSender := by
  intro i blk s t c hop h
  cases i with
  | rxReset =>
    cases h
    exact next_onBlock_comm (Block.issue_withSenderOf fun _ => rfl)
  | rxRelease =>
    cases h
    exact next_onBlock_comm (Block.issue_withSenderOf (Block.withSenderOf_rxRelease · c))
  | rxData =>
    rw [exec, execRxData] at h ⊢
    exact onData_withSenderOf (fun seq p b => Block.withSenderOf_rxData b c seq p) h
  | rxAccept =>
    rw [exec, execRxAccept] at h ⊢
    exact onData_withSenderOf (fun seq p b => Block.withSenderOf_rxAccept b c seq p) h
  | rxSinkBusy =>
    rw [exec, execRxSinkBusy] at h ⊢
    exact onData_withSenderOf (fun seq _ b => Block.withSenderOf_rxSinkBusy b c seq) h
  | rxDuplicate =>
    rw [exec, execRxDuplicate] at h ⊢
    exact onData_withSenderOf (fun seq _ b => Block.withSenderOf_rxDuplicate b c seq) h
  | rxFuture =>
    rw [exec, execRxFuture] at h ⊢
    exact onData_withSenderOf (fun seq _ b => Block.withSenderOf_rxFuture b c seq) h
  | _ => cases hop

/-- Settles O50: each rule of the sender half commutes with the replacement of a receiver session, and no condition
of its rows depends on it. -/
theorem senderDoesNotReadTheReceiver : Obligations.SenderDoesNotReadTheReceiver := by
  intro i blk s t c hop h
  cases i with
  | txStart =>
    cases h
    exact next_onBlock_comm (Block.issue_withReceiverOf (Block.withReceiverOf_txStart · c))
  | txSend =>
    cases h
    rw [exec, execTxSend, State.onBlock_fill]
    exact next_onBlock_comm (Block.issue_withReceiverOf fun b => Block.withReceiverOf_txSend b c _ _)
  | txEnd =>
    cases h
    exact next_onBlock_comm (Block.issue_withReceiverOf (Block.withReceiverOf_txEnd · c))
  | txCancel =>
    cases h
    exact next_onBlock_comm (Block.issue_withReceiverOf (Block.withReceiverOf_txCancel · c))
  | rxAckMatch =>
    rw [exec, execRxAckMatch] at h ⊢
    exact onAck_withReceiverOf (fun seq b => Block.withReceiverOf_ackMatches b c seq)
      (fun seq b => Block.withReceiverOf_rxAckMatch b c seq) h
  | rxAckStale =>
    rw [exec, execRxAckStale] at h ⊢
    exact onAck_withReceiverOf (fun seq b => congrArg not (Block.withReceiverOf_ackMatches b c seq))
      (fun seq b => Block.withReceiverOf_rxAckStale b c seq) h
  | tick k =>
    obtain ⟨ht, rfl⟩ := execTick_next h
    rw [exec_tick_of_timeMayPass k (by rwa [State.onBlock_timeMayPass])]
    exact next_onBlock_comm (Block.withReceiverOf_tick · c)
  | expireRetransmit =>
    rw [exec, execExpireRetransmit] at h ⊢
    exact onExpire_withReceiverOf (Block.withReceiverOf_retryLeft · c) (Block.withReceiverOf_expireRetransmit · c) h
  | expireFail =>
    rw [exec, execExpireFail] at h ⊢
    exact onExpire_withReceiverOf (fun b => congrArg not (Block.withReceiverOf_retryLeft b c))
      (Block.withReceiverOf_expireFail · c) h
  | sysTick =>
    obtain ⟨hen, rfl⟩ := execSysTick_next h
    rw [← State.sysTick_withReceiverOf]
    exact if_pos ((State.sysTickEnabled_withReceiverOf c).trans hen)
  | _ => cases hop

/-- Settles O48: with a half replaced by itself, O49 and O50 say that the operation leaves that half as it was. -/
theorem halvesDoNotWriteEachOther : Obligations.HalvesDoNotWriteEachOther := by
  intro i s t blk h
  refine ⟨fun hop => ?_, fun hop => ?_⟩
  · exact Block.sameReceiver_of_eq_withReceiverOf
      (block_fixed_of_comm h rfl (senderDoesNotReadTheReceiver i blk s t (s.block blk) hop h))
  · exact Block.sameSender_of_eq_withSenderOf
      (block_fixed_of_comm h rfl (receiverDoesNotReadTheSender i blk s t (s.block blk) hop h))

end Sys2Proof.Machine
end

section
/-! SUPPORT. The state after reset: each block holds the values of R300's table, and a block so reset meets the
invariant. -/

namespace Sys2Proof.Machine

theorem Counters.get_zero (c : Counter) : Counters.zero.get c = 0 := by cases c <;> rfl

/-- R300: a block right after its reset already holds what the reset assignments write. -/
theorem Block.resetAssign_afterReset (par : Params) (n : Nat) :
    (Block.afterReset par n).resetAssign n = Block.afterReset par n := rfl

theorem Block.inv_resetAssign (n : Nat) (b : Block) : (b.resetAssign n).Inv :=
  ⟨b.senderInv_resetAssign n, b.receiverInv_resetAssign n, b.storageInv_resetAssign n⟩

theorem Block.inv_afterReset (par : Params) (n : Nat) : (Block.afterReset par n).Inv :=
  Block.resetAssign_afterReset par n ▸ Block.inv_resetAssign n _

/-- R301: both blocks are right after their reset, and differ only in what RETX is left with. -/
theorem State.block_reset (blk : BlockId) : ∃ n, State.reset.block blk = Block.afterReset Params.standard n := by
  cases blk
  · exact ⟨0, rfl⟩
  · exact ⟨1, rfl⟩

end Sys2Proof.Machine
end

section
/-! PROOFS. The statements of 70_reset_and_hazards.md. -/

namespace Sys2Proof.Machine

/-- Settles O22: the values listed are those of the reset assignments, which RESET makes outright and SOFT_RESET as
the rule of a command that its reserved bits alone can fail. -/
theorem resetSetsEveryField : Obligations.ResetSetsEveryField := by
  rintro blk s b r rfl hr
  have hassign : (s.block blk).resetAssign s.draws = r := hr.symm
  have hrule : (s.block blk).softReset s.draws = .ok r := congrArg Except.ok hassign
  exact ⟨next_onBlock hassign, next_onBlock (Block.issue_zero_of_ok hrule),
    fun rsvd hrsvd => next_onBlock (Block.issue_of_reserved hrsvd)⟩

/-- Settles O23: each block is right after its reset, where every field stands as the reset table lists it. -/
theorem resetStateIsFresh : Obligations.ResetStateIsFresh := by
  rintro blk b rfl
  obtain ⟨n, hb⟩ := State.block_reset blk
  have hbuf (i : Nat) : Memory.load? [] i = none := rfl
  simp [hb, Block.afterReset, Params.standard, Counters.get_zero, hbuf]

/-- Settles O58: each block is right after its reset, where the invariant holds whatever its sizes and RETX are. -/
theorem resetMeetsTheInvariant : Obligations.ResetMeetsTheInvariant := by
  refine (State.inv_iff State.reset).2 fun blk => ?_
  obtain ⟨n, hb⟩ := State.block_reset blk
  rw [hb]
  exact Block.inv_afterReset Params.standard n

end Sys2Proof.Machine
end
